-- ==== Sys2Proof/Word.lean ====
section
/-! DEFINITION. The two word sizes of the machine (00_scope.md R5). Their arithmetic is that of `BitVec`, modulo 2^8 and 2^16. -/

namespace Sys2Proof

/-- A general register, a memory byte, an opcode byte (00_scope.md R5). -/
abbrev Byte := BitVec 8

/-- The stack pointer, the program counter, an address, a register pair (00_scope.md R5). -/
abbrev Word := BitVec 16

end Sys2Proof
end

