-- ==== Sys2Proof/Config.lean ====
section
/-! DEFINITION. What is fixed for a run of the machine: the parameters of 00_scope.md R6 and the fixed sizes of R5.
The two ROM images are also arguments of a run; they stand in the state (`State.bootRom`, `State.cartRom`). -/

namespace Sys2Proof

/-- The parameter STOP_MODE: what opcode 0x10 does (00_scope.md R6, 46_system.md R283). -/
inductive StopMode where
  /-- STOP is a two-byte no-op. -/
  | nop2
  /-- STOP is treated as an undefined opcode. -/
  | refuse
  deriving DecidableEq, Repr

/-- The parameters of a run that are not ROM contents (00_scope.md R6). They never change (10_state.md R61). -/
structure Params where
  /-- STOP_MODE. -/
  stopMode : StopMode
  /-- PPU_VBLANK_LY_COUNTS. -/
  vblankLyCounts : Bool
  deriving DecidableEq, Repr

/-- The defaults the spec recommends for both parameters (00_scope.md R6). DESIGN CHOICE of the model for the reset
state only (log 3): every statement over states holds for each value of the parameters. -/
def Params.default : Params := { stopMode := .nop2, vblankLyCounts := false }

/-- Size of a BOOT_ROM image in bytes (00_scope.md R6). -/
def bootRomSize : Nat := 256

/-- Size of a CART_ROM image in bytes (00_scope.md R6). -/
def cartRomSize : Nat := 32768

/-- What a byte of storage that nothing has written reads as: the reset contents 0x00 of every RAM region, VRAM and
OAM (70_reset_and_hazards.md R401). For the two ROM lists it is the model's own filling of an image that lists
nothing. DESIGN CHOICE (log 2). -/
def unlistedByte : Byte := 0x00

end Sys2Proof
end

