-- ==== Sys2Proof/Syntax.lean ====
section
/-! DEFINITION. The instruction set as syntax: one constructor for every row of opcode_table.json (511 rows: 244
one-byte opcodes, 11 undefined first bytes, 256 prefixed sub-opcodes; 30_encoding.md R121, R122, R129).
A constructor's name is the row's mnemonic in lower case; `m` before a name is the memory operand `( )`, `mhli` and
`mhld` are `(HL+)` and `(HL-)`. Operands are the immediates of R113 to R115: `n : Byte`, `nn : Word`, and the signed
displacement `e : Int`. -/

namespace Sys2Proof

/-- The seven byte registers a 3-bit selector names (30_encoding.md R112; selector 6 is the memory byte at HL). -/
inductive Reg8 where
  | b | c | d | e | h | l | a
  deriving DecidableEq, Repr

/-- The register pairs of selector `r16` (30_encoding.md R112). -/
inductive Reg16 where
  | bc | de | hl | sp
  deriving DecidableEq, Repr

/-- The register pairs of selector `r16s`, the stack group (30_encoding.md R112). -/
inductive Reg16s where
  | bc | de | hl | af
  deriving DecidableEq, Repr

/-- The conditions of selector `cc` (30_encoding.md R112). -/
inductive Cond where
  | nz | z | nc | c
  deriving DecidableEq, Repr

/-- The eight accumulator operations (42_alu8.md R186). -/
inductive AluOp where
  | add | adc | sub | sbc | and | xor | or | cp
  deriving DecidableEq, Repr

/-- The eight prefixed rotates and shifts (30_encoding.md R112). -/
inductive ShiftOp where
  | rlc | rrc | rl | rr | sla | sra | swap | srl
  deriving DecidableEq, Repr

/-- One constructor per row of the opcode table, in the table's order but for the eleven undefined first bytes, which
stand last (the Lean runtime wants constructors with operands among the first 244). -/
inductive Instr where
  | nop
  | ld_bc_nn (nn : Word)
  | ld_mbc_a
  | inc_bc
  | inc_b
  | dec_b
  | ld_b_n (n : Byte)
  | rlca
  | ld_mnn_sp (nn : Word)
  | add_hl_bc
  | ld_a_mbc
  | dec_bc
  | inc_c
  | dec_c
  | ld_c_n (n : Byte)
  | rrca
  | stop
  | ld_de_nn (nn : Word)
  | ld_mde_a
  | inc_de
  | inc_d
  | dec_d
  | ld_d_n (n : Byte)
  | rla
  | jr_e (e : Int)
  | add_hl_de
  | ld_a_mde
  | dec_de
  | inc_e
  | dec_e
  | ld_e_n (n : Byte)
  | rra
  | jr_nz_e (e : Int)
  | ld_hl_nn (nn : Word)
  | ld_mhli_a
  | inc_hl
  | inc_h
  | dec_h
  | ld_h_n (n : Byte)
  | daa
  | jr_z_e (e : Int)
  | add_hl_hl
  | ld_a_mhli
  | dec_hl
  | inc_l
  | dec_l
  | ld_l_n (n : Byte)
  | cpl
  | jr_nc_e (e : Int)
  | ld_sp_nn (nn : Word)
  | ld_mhld_a
  | inc_sp
  | inc_mhl
  | dec_mhl
  | ld_mhl_n (n : Byte)
  | scf
  | jr_c_e (e : Int)
  | add_hl_sp
  | ld_a_mhld
  | dec_sp
  | inc_a
  | dec_a
  | ld_a_n (n : Byte)
  | ccf
  | ld_b_b
  | ld_b_c
  | ld_b_d
  | ld_b_e
  | ld_b_h
  | ld_b_l
  | ld_b_mhl
  | ld_b_a
  | ld_c_b
  | ld_c_c
  | ld_c_d
  | ld_c_e
  | ld_c_h
  | ld_c_l
  | ld_c_mhl
  | ld_c_a
  | ld_d_b
  | ld_d_c
  | ld_d_d
  | ld_d_e
  | ld_d_h
  | ld_d_l
  | ld_d_mhl
  | ld_d_a
  | ld_e_b
  | ld_e_c
  | ld_e_d
  | ld_e_e
  | ld_e_h
  | ld_e_l
  | ld_e_mhl
  | ld_e_a
  | ld_h_b
  | ld_h_c
  | ld_h_d
  | ld_h_e
  | ld_h_h
  | ld_h_l
  | ld_h_mhl
  | ld_h_a
  | ld_l_b
  | ld_l_c
  | ld_l_d
  | ld_l_e
  | ld_l_h
  | ld_l_l
  | ld_l_mhl
  | ld_l_a
  | ld_mhl_b
  | ld_mhl_c
  | ld_mhl_d
  | ld_mhl_e
  | ld_mhl_h
  | ld_mhl_l
  | halt
  | ld_mhl_a
  | ld_a_b
  | ld_a_c
  | ld_a_d
  | ld_a_e
  | ld_a_h
  | ld_a_l
  | ld_a_mhl
  | ld_a_a
  | add_a_b
  | add_a_c
  | add_a_d
  | add_a_e
  | add_a_h
  | add_a_l
  | add_a_mhl
  | add_a_a
  | adc_a_b
  | adc_a_c
  | adc_a_d
  | adc_a_e
  | adc_a_h
  | adc_a_l
  | adc_a_mhl
  | adc_a_a
  | sub_b
  | sub_c
  | sub_d
  | sub_e
  | sub_h
  | sub_l
  | sub_mhl
  | sub_a
  | sbc_a_b
  | sbc_a_c
  | sbc_a_d
  | sbc_a_e
  | sbc_a_h
  | sbc_a_l
  | sbc_a_mhl
  | sbc_a_a
  | and_b
  | and_c
  | and_d
  | and_e
  | and_h
  | and_l
  | and_mhl
  | and_a
  | xor_b
  | xor_c
  | xor_d
  | xor_e
  | xor_h
  | xor_l
  | xor_mhl
  | xor_a
  | or_b
  | or_c
  | or_d
  | or_e
  | or_h
  | or_l
  | or_mhl
  | or_a
  | cp_b
  | cp_c
  | cp_d
  | cp_e
  | cp_h
  | cp_l
  | cp_mhl
  | cp_a
  | ret_nz
  | pop_bc
  | jp_nz_nn (nn : Word)
  | jp_nn (nn : Word)
  | call_nz_nn (nn : Word)
  | push_bc
  | add_a_n (n : Byte)
  | rst_00
  | ret_z
  | ret
  | jp_z_nn (nn : Word)
  | call_z_nn (nn : Word)
  | call_nn (nn : Word)
  | adc_a_n (n : Byte)
  | rst_08
  | ret_nc
  | pop_de
  | jp_nc_nn (nn : Word)
  | call_nc_nn (nn : Word)
  | push_de
  | sub_n (n : Byte)
  | rst_10
  | ret_c
  | reti
  | jp_c_nn (nn : Word)
  | call_c_nn (nn : Word)
  | sbc_a_n (n : Byte)
  | rst_18
  | ldh_mn_a (n : Byte)
  | pop_hl
  | ldh_mc_a
  | push_hl
  | and_n (n : Byte)
  | rst_20
  | add_sp_e (e : Int)
  | jp_hl
  | ld_mnn_a (nn : Word)
  | xor_n (n : Byte)
  | rst_28
  | ldh_a_mn (n : Byte)
  | pop_af
  | ldh_a_mc
  | di
  | push_af
  | or_n (n : Byte)
  | rst_30
  | ld_hl_sp_e (e : Int)
  | ld_sp_hl
  | ld_a_mnn (nn : Word)
  | ei
  | cp_n (n : Byte)
  | rst_38
  | rlc_b
  | rlc_c
  | rlc_d
  | rlc_e
  | rlc_h
  | rlc_l
  | rlc_mhl
  | rlc_a
  | rrc_b
  | rrc_c
  | rrc_d
  | rrc_e
  | rrc_h
  | rrc_l
  | rrc_mhl
  | rrc_a
  | rl_b
  | rl_c
  | rl_d
  | rl_e
  | rl_h
  | rl_l
  | rl_mhl
  | rl_a
  | rr_b
  | rr_c
  | rr_d
  | rr_e
  | rr_h
  | rr_l
  | rr_mhl
  | rr_a
  | sla_b
  | sla_c
  | sla_d
  | sla_e
  | sla_h
  | sla_l
  | sla_mhl
  | sla_a
  | sra_b
  | sra_c
  | sra_d
  | sra_e
  | sra_h
  | sra_l
  | sra_mhl
  | sra_a
  | swap_b
  | swap_c
  | swap_d
  | swap_e
  | swap_h
  | swap_l
  | swap_mhl
  | swap_a
  | srl_b
  | srl_c
  | srl_d
  | srl_e
  | srl_h
  | srl_l
  | srl_mhl
  | srl_a
  | bit_0_b
  | bit_0_c
  | bit_0_d
  | bit_0_e
  | bit_0_h
  | bit_0_l
  | bit_0_mhl
  | bit_0_a
  | bit_1_b
  | bit_1_c
  | bit_1_d
  | bit_1_e
  | bit_1_h
  | bit_1_l
  | bit_1_mhl
  | bit_1_a
  | bit_2_b
  | bit_2_c
  | bit_2_d
  | bit_2_e
  | bit_2_h
  | bit_2_l
  | bit_2_mhl
  | bit_2_a
  | bit_3_b
  | bit_3_c
  | bit_3_d
  | bit_3_e
  | bit_3_h
  | bit_3_l
  | bit_3_mhl
  | bit_3_a
  | bit_4_b
  | bit_4_c
  | bit_4_d
  | bit_4_e
  | bit_4_h
  | bit_4_l
  | bit_4_mhl
  | bit_4_a
  | bit_5_b
  | bit_5_c
  | bit_5_d
  | bit_5_e
  | bit_5_h
  | bit_5_l
  | bit_5_mhl
  | bit_5_a
  | bit_6_b
  | bit_6_c
  | bit_6_d
  | bit_6_e
  | bit_6_h
  | bit_6_l
  | bit_6_mhl
  | bit_6_a
  | bit_7_b
  | bit_7_c
  | bit_7_d
  | bit_7_e
  | bit_7_h
  | bit_7_l
  | bit_7_mhl
  | bit_7_a
  | res_0_b
  | res_0_c
  | res_0_d
  | res_0_e
  | res_0_h
  | res_0_l
  | res_0_mhl
  | res_0_a
  | res_1_b
  | res_1_c
  | res_1_d
  | res_1_e
  | res_1_h
  | res_1_l
  | res_1_mhl
  | res_1_a
  | res_2_b
  | res_2_c
  | res_2_d
  | res_2_e
  | res_2_h
  | res_2_l
  | res_2_mhl
  | res_2_a
  | res_3_b
  | res_3_c
  | res_3_d
  | res_3_e
  | res_3_h
  | res_3_l
  | res_3_mhl
  | res_3_a
  | res_4_b
  | res_4_c
  | res_4_d
  | res_4_e
  | res_4_h
  | res_4_l
  | res_4_mhl
  | res_4_a
  | res_5_b
  | res_5_c
  | res_5_d
  | res_5_e
  | res_5_h
  | res_5_l
  | res_5_mhl
  | res_5_a
  | res_6_b
  | res_6_c
  | res_6_d
  | res_6_e
  | res_6_h
  | res_6_l
  | res_6_mhl
  | res_6_a
  | res_7_b
  | res_7_c
  | res_7_d
  | res_7_e
  | res_7_h
  | res_7_l
  | res_7_mhl
  | res_7_a
  | set_0_b
  | set_0_c
  | set_0_d
  | set_0_e
  | set_0_h
  | set_0_l
  | set_0_mhl
  | set_0_a
  | set_1_b
  | set_1_c
  | set_1_d
  | set_1_e
  | set_1_h
  | set_1_l
  | set_1_mhl
  | set_1_a
  | set_2_b
  | set_2_c
  | set_2_d
  | set_2_e
  | set_2_h
  | set_2_l
  | set_2_mhl
  | set_2_a
  | set_3_b
  | set_3_c
  | set_3_d
  | set_3_e
  | set_3_h
  | set_3_l
  | set_3_mhl
  | set_3_a
  | set_4_b
  | set_4_c
  | set_4_d
  | set_4_e
  | set_4_h
  | set_4_l
  | set_4_mhl
  | set_4_a
  | set_5_b
  | set_5_c
  | set_5_d
  | set_5_e
  | set_5_h
  | set_5_l
  | set_5_mhl
  | set_5_a
  | set_6_b
  | set_6_c
  | set_6_d
  | set_6_e
  | set_6_h
  | set_6_l
  | set_6_mhl
  | set_6_a
  | set_7_b
  | set_7_c
  | set_7_d
  | set_7_e
  | set_7_h
  | set_7_l
  | set_7_mhl
  | set_7_a
  | illegal_d3
  | illegal_db
  | illegal_dd
  | illegal_e3
  | illegal_e4
  | illegal_eb
  | illegal_ec
  | illegal_ed
  | illegal_f4
  | illegal_fc
  | illegal_fd
  deriving DecidableEq, Repr

/-! ### Families of instructions by operand selector

Each function gives the instruction a family's operand selectors name, so that one statement can speak of a whole
family. -/

/-- `LD r,r'` (40_load8.md R141). -/
def Instr.ldRegReg : (dst src : Reg8) → Instr
  | .b, .b => .ld_b_b
  | .b, .c => .ld_b_c
  | .b, .d => .ld_b_d
  | .b, .e => .ld_b_e
  | .b, .h => .ld_b_h
  | .b, .l => .ld_b_l
  | .b, .a => .ld_b_a
  | .c, .b => .ld_c_b
  | .c, .c => .ld_c_c
  | .c, .d => .ld_c_d
  | .c, .e => .ld_c_e
  | .c, .h => .ld_c_h
  | .c, .l => .ld_c_l
  | .c, .a => .ld_c_a
  | .d, .b => .ld_d_b
  | .d, .c => .ld_d_c
  | .d, .d => .ld_d_d
  | .d, .e => .ld_d_e
  | .d, .h => .ld_d_h
  | .d, .l => .ld_d_l
  | .d, .a => .ld_d_a
  | .e, .b => .ld_e_b
  | .e, .c => .ld_e_c
  | .e, .d => .ld_e_d
  | .e, .e => .ld_e_e
  | .e, .h => .ld_e_h
  | .e, .l => .ld_e_l
  | .e, .a => .ld_e_a
  | .h, .b => .ld_h_b
  | .h, .c => .ld_h_c
  | .h, .d => .ld_h_d
  | .h, .e => .ld_h_e
  | .h, .h => .ld_h_h
  | .h, .l => .ld_h_l
  | .h, .a => .ld_h_a
  | .l, .b => .ld_l_b
  | .l, .c => .ld_l_c
  | .l, .d => .ld_l_d
  | .l, .e => .ld_l_e
  | .l, .h => .ld_l_h
  | .l, .l => .ld_l_l
  | .l, .a => .ld_l_a
  | .a, .b => .ld_a_b
  | .a, .c => .ld_a_c
  | .a, .d => .ld_a_d
  | .a, .e => .ld_a_e
  | .a, .h => .ld_a_h
  | .a, .l => .ld_a_l
  | .a, .a => .ld_a_a

/-- `LD r,n` (40_load8.md R142). -/
def Instr.ldRegImm : Reg8 → Byte → Instr
  | .b, n => .ld_b_n n
  | .c, n => .ld_c_n n
  | .d, n => .ld_d_n n
  | .e, n => .ld_e_n n
  | .h, n => .ld_h_n n
  | .l, n => .ld_l_n n
  | .a, n => .ld_a_n n

/-- `LD r,(HL)` (40_load8.md R143). -/
def Instr.ldRegMem : Reg8 → Instr
  | .b => .ld_b_mhl
  | .c => .ld_c_mhl
  | .d => .ld_d_mhl
  | .e => .ld_e_mhl
  | .h => .ld_h_mhl
  | .l => .ld_l_mhl
  | .a => .ld_a_mhl

/-- `LD (HL),r` (40_load8.md R144). -/
def Instr.ldMemReg : Reg8 → Instr
  | .b => .ld_mhl_b
  | .c => .ld_mhl_c
  | .d => .ld_mhl_d
  | .e => .ld_mhl_e
  | .h => .ld_mhl_h
  | .l => .ld_mhl_l
  | .a => .ld_mhl_a

/-- The accumulator operations, register form (42_alu8.md R186). -/
def Instr.aluReg : AluOp → Reg8 → Instr
  | .add, .b => .add_a_b
  | .add, .c => .add_a_c
  | .add, .d => .add_a_d
  | .add, .e => .add_a_e
  | .add, .h => .add_a_h
  | .add, .l => .add_a_l
  | .add, .a => .add_a_a
  | .adc, .b => .adc_a_b
  | .adc, .c => .adc_a_c
  | .adc, .d => .adc_a_d
  | .adc, .e => .adc_a_e
  | .adc, .h => .adc_a_h
  | .adc, .l => .adc_a_l
  | .adc, .a => .adc_a_a
  | .sub, .b => .sub_b
  | .sub, .c => .sub_c
  | .sub, .d => .sub_d
  | .sub, .e => .sub_e
  | .sub, .h => .sub_h
  | .sub, .l => .sub_l
  | .sub, .a => .sub_a
  | .sbc, .b => .sbc_a_b
  | .sbc, .c => .sbc_a_c
  | .sbc, .d => .sbc_a_d
  | .sbc, .e => .sbc_a_e
  | .sbc, .h => .sbc_a_h
  | .sbc, .l => .sbc_a_l
  | .sbc, .a => .sbc_a_a
  | .and, .b => .and_b
  | .and, .c => .and_c
  | .and, .d => .and_d
  | .and, .e => .and_e
  | .and, .h => .and_h
  | .and, .l => .and_l
  | .and, .a => .and_a
  | .xor, .b => .xor_b
  | .xor, .c => .xor_c
  | .xor, .d => .xor_d
  | .xor, .e => .xor_e
  | .xor, .h => .xor_h
  | .xor, .l => .xor_l
  | .xor, .a => .xor_a
  | .or, .b => .or_b
  | .or, .c => .or_c
  | .or, .d => .or_d
  | .or, .e => .or_e
  | .or, .h => .or_h
  | .or, .l => .or_l
  | .or, .a => .or_a
  | .cp, .b => .cp_b
  | .cp, .c => .cp_c
  | .cp, .d => .cp_d
  | .cp, .e => .cp_e
  | .cp, .h => .cp_h
  | .cp, .l => .cp_l
  | .cp, .a => .cp_a

/-- The accumulator operations, memory form (42_alu8.md R186). -/
def Instr.aluMem : AluOp → Instr
  | .add => .add_a_mhl
  | .adc => .adc_a_mhl
  | .sub => .sub_mhl
  | .sbc => .sbc_a_mhl
  | .and => .and_mhl
  | .xor => .xor_mhl
  | .or => .or_mhl
  | .cp => .cp_mhl

/-- The accumulator operations, immediate form (42_alu8.md R186). -/
def Instr.aluImm : AluOp → Byte → Instr
  | .add, n => .add_a_n n
  | .adc, n => .adc_a_n n
  | .sub, n => .sub_n n
  | .sbc, n => .sbc_a_n n
  | .and, n => .and_n n
  | .xor, n => .xor_n n
  | .or, n => .or_n n
  | .cp, n => .cp_n n

/-- `INC r` (42_alu8.md R195). -/
def Instr.incReg : Reg8 → Instr
  | .b => .inc_b
  | .c => .inc_c
  | .d => .inc_d
  | .e => .inc_e
  | .h => .inc_h
  | .l => .inc_l
  | .a => .inc_a

/-- `DEC r` (42_alu8.md R197). -/
def Instr.decReg : Reg8 → Instr
  | .b => .dec_b
  | .c => .dec_c
  | .d => .dec_d
  | .e => .dec_e
  | .h => .dec_h
  | .l => .dec_l
  | .a => .dec_a

/-- `LD rr,nn` (41_load16_stack.md R170). -/
def Instr.ldPairImm : Reg16 → Word → Instr
  | .bc, nn => .ld_bc_nn nn
  | .de, nn => .ld_de_nn nn
  | .hl, nn => .ld_hl_nn nn
  | .sp, nn => .ld_sp_nn nn

/-- `ADD HL,rr` (43_alu16.md R220). -/
def Instr.addHl : Reg16 → Instr
  | .bc => .add_hl_bc
  | .de => .add_hl_de
  | .hl => .add_hl_hl
  | .sp => .add_hl_sp

/-- `INC rr` (43_alu16.md R221). -/
def Instr.incPair : Reg16 → Instr
  | .bc => .inc_bc
  | .de => .inc_de
  | .hl => .inc_hl
  | .sp => .inc_sp

/-- `DEC rr` (43_alu16.md R222). -/
def Instr.decPair : Reg16 → Instr
  | .bc => .dec_bc
  | .de => .dec_de
  | .hl => .dec_hl
  | .sp => .dec_sp

/-- `PUSH rr` (41_load16_stack.md R173). -/
def Instr.push : Reg16s → Instr
  | .bc => .push_bc
  | .de => .push_de
  | .hl => .push_hl
  | .af => .push_af

/-- `POP rr` (41_load16_stack.md R174). -/
def Instr.pop : Reg16s → Instr
  | .bc => .pop_bc
  | .de => .pop_de
  | .hl => .pop_hl
  | .af => .pop_af

/-- `JP cc,nn` (45_control.md R263). -/
def Instr.jpCond : Cond → Word → Instr
  | .nz, nn => .jp_nz_nn nn
  | .z, nn => .jp_z_nn nn
  | .nc, nn => .jp_nc_nn nn
  | .c, nn => .jp_c_nn nn

/-- `JR cc,e` (45_control.md R265). -/
def Instr.jrCond : Cond → Int → Instr
  | .nz, e => .jr_nz_e e
  | .z, e => .jr_z_e e
  | .nc, e => .jr_nc_e e
  | .c, e => .jr_c_e e

/-- `CALL cc,nn` (45_control.md R267). -/
def Instr.callCond : Cond → Word → Instr
  | .nz, nn => .call_nz_nn nn
  | .z, nn => .call_z_nn nn
  | .nc, nn => .call_nc_nn nn
  | .c, nn => .call_c_nn nn

/-- `RET cc` (45_control.md R271). -/
def Instr.retCond : Cond → Instr
  | .nz => .ret_nz
  | .z => .ret_z
  | .nc => .ret_nc
  | .c => .ret_c

/-- `RST t` with `t = 8 * y` (45_control.md R276). -/
def Instr.rst : Fin 8 → Instr
  | 0 => .rst_00
  | 1 => .rst_08
  | 2 => .rst_10
  | 3 => .rst_18
  | 4 => .rst_20
  | 5 => .rst_28
  | 6 => .rst_30
  | 7 => .rst_38

/-- The prefixed rotates and shifts on a register (44_rotate_shift_bit.md R236). -/
def Instr.shiftReg : ShiftOp → Reg8 → Instr
  | .rlc, .b => .rlc_b
  | .rlc, .c => .rlc_c
  | .rlc, .d => .rlc_d
  | .rlc, .e => .rlc_e
  | .rlc, .h => .rlc_h
  | .rlc, .l => .rlc_l
  | .rlc, .a => .rlc_a
  | .rrc, .b => .rrc_b
  | .rrc, .c => .rrc_c
  | .rrc, .d => .rrc_d
  | .rrc, .e => .rrc_e
  | .rrc, .h => .rrc_h
  | .rrc, .l => .rrc_l
  | .rrc, .a => .rrc_a
  | .rl, .b => .rl_b
  | .rl, .c => .rl_c
  | .rl, .d => .rl_d
  | .rl, .e => .rl_e
  | .rl, .h => .rl_h
  | .rl, .l => .rl_l
  | .rl, .a => .rl_a
  | .rr, .b => .rr_b
  | .rr, .c => .rr_c
  | .rr, .d => .rr_d
  | .rr, .e => .rr_e
  | .rr, .h => .rr_h
  | .rr, .l => .rr_l
  | .rr, .a => .rr_a
  | .sla, .b => .sla_b
  | .sla, .c => .sla_c
  | .sla, .d => .sla_d
  | .sla, .e => .sla_e
  | .sla, .h => .sla_h
  | .sla, .l => .sla_l
  | .sla, .a => .sla_a
  | .sra, .b => .sra_b
  | .sra, .c => .sra_c
  | .sra, .d => .sra_d
  | .sra, .e => .sra_e
  | .sra, .h => .sra_h
  | .sra, .l => .sra_l
  | .sra, .a => .sra_a
  | .swap, .b => .swap_b
  | .swap, .c => .swap_c
  | .swap, .d => .swap_d
  | .swap, .e => .swap_e
  | .swap, .h => .swap_h
  | .swap, .l => .swap_l
  | .swap, .a => .swap_a
  | .srl, .b => .srl_b
  | .srl, .c => .srl_c
  | .srl, .d => .srl_d
  | .srl, .e => .srl_e
  | .srl, .h => .srl_h
  | .srl, .l => .srl_l
  | .srl, .a => .srl_a

/-- The prefixed rotates and shifts on the byte at HL (44_rotate_shift_bit.md R236). -/
def Instr.shiftMem : ShiftOp → Instr
  | .rlc => .rlc_mhl
  | .rrc => .rrc_mhl
  | .rl => .rl_mhl
  | .rr => .rr_mhl
  | .sla => .sla_mhl
  | .sra => .sra_mhl
  | .swap => .swap_mhl
  | .srl => .srl_mhl

/-- `BIT b,r` (44_rotate_shift_bit.md R245). -/
def Instr.bitReg : Fin 8 → Reg8 → Instr
  | 0, .b => .bit_0_b
  | 0, .c => .bit_0_c
  | 0, .d => .bit_0_d
  | 0, .e => .bit_0_e
  | 0, .h => .bit_0_h
  | 0, .l => .bit_0_l
  | 0, .a => .bit_0_a
  | 1, .b => .bit_1_b
  | 1, .c => .bit_1_c
  | 1, .d => .bit_1_d
  | 1, .e => .bit_1_e
  | 1, .h => .bit_1_h
  | 1, .l => .bit_1_l
  | 1, .a => .bit_1_a
  | 2, .b => .bit_2_b
  | 2, .c => .bit_2_c
  | 2, .d => .bit_2_d
  | 2, .e => .bit_2_e
  | 2, .h => .bit_2_h
  | 2, .l => .bit_2_l
  | 2, .a => .bit_2_a
  | 3, .b => .bit_3_b
  | 3, .c => .bit_3_c
  | 3, .d => .bit_3_d
  | 3, .e => .bit_3_e
  | 3, .h => .bit_3_h
  | 3, .l => .bit_3_l
  | 3, .a => .bit_3_a
  | 4, .b => .bit_4_b
  | 4, .c => .bit_4_c
  | 4, .d => .bit_4_d
  | 4, .e => .bit_4_e
  | 4, .h => .bit_4_h
  | 4, .l => .bit_4_l
  | 4, .a => .bit_4_a
  | 5, .b => .bit_5_b
  | 5, .c => .bit_5_c
  | 5, .d => .bit_5_d
  | 5, .e => .bit_5_e
  | 5, .h => .bit_5_h
  | 5, .l => .bit_5_l
  | 5, .a => .bit_5_a
  | 6, .b => .bit_6_b
  | 6, .c => .bit_6_c
  | 6, .d => .bit_6_d
  | 6, .e => .bit_6_e
  | 6, .h => .bit_6_h
  | 6, .l => .bit_6_l
  | 6, .a => .bit_6_a
  | 7, .b => .bit_7_b
  | 7, .c => .bit_7_c
  | 7, .d => .bit_7_d
  | 7, .e => .bit_7_e
  | 7, .h => .bit_7_h
  | 7, .l => .bit_7_l
  | 7, .a => .bit_7_a

/-- `BIT b,(HL)` (44_rotate_shift_bit.md R245). -/
def Instr.bitMem : Fin 8 → Instr
  | 0 => .bit_0_mhl
  | 1 => .bit_1_mhl
  | 2 => .bit_2_mhl
  | 3 => .bit_3_mhl
  | 4 => .bit_4_mhl
  | 5 => .bit_5_mhl
  | 6 => .bit_6_mhl
  | 7 => .bit_7_mhl

/-- `RES b,r` (44_rotate_shift_bit.md R246). -/
def Instr.resReg : Fin 8 → Reg8 → Instr
  | 0, .b => .res_0_b
  | 0, .c => .res_0_c
  | 0, .d => .res_0_d
  | 0, .e => .res_0_e
  | 0, .h => .res_0_h
  | 0, .l => .res_0_l
  | 0, .a => .res_0_a
  | 1, .b => .res_1_b
  | 1, .c => .res_1_c
  | 1, .d => .res_1_d
  | 1, .e => .res_1_e
  | 1, .h => .res_1_h
  | 1, .l => .res_1_l
  | 1, .a => .res_1_a
  | 2, .b => .res_2_b
  | 2, .c => .res_2_c
  | 2, .d => .res_2_d
  | 2, .e => .res_2_e
  | 2, .h => .res_2_h
  | 2, .l => .res_2_l
  | 2, .a => .res_2_a
  | 3, .b => .res_3_b
  | 3, .c => .res_3_c
  | 3, .d => .res_3_d
  | 3, .e => .res_3_e
  | 3, .h => .res_3_h
  | 3, .l => .res_3_l
  | 3, .a => .res_3_a
  | 4, .b => .res_4_b
  | 4, .c => .res_4_c
  | 4, .d => .res_4_d
  | 4, .e => .res_4_e
  | 4, .h => .res_4_h
  | 4, .l => .res_4_l
  | 4, .a => .res_4_a
  | 5, .b => .res_5_b
  | 5, .c => .res_5_c
  | 5, .d => .res_5_d
  | 5, .e => .res_5_e
  | 5, .h => .res_5_h
  | 5, .l => .res_5_l
  | 5, .a => .res_5_a
  | 6, .b => .res_6_b
  | 6, .c => .res_6_c
  | 6, .d => .res_6_d
  | 6, .e => .res_6_e
  | 6, .h => .res_6_h
  | 6, .l => .res_6_l
  | 6, .a => .res_6_a
  | 7, .b => .res_7_b
  | 7, .c => .res_7_c
  | 7, .d => .res_7_d
  | 7, .e => .res_7_e
  | 7, .h => .res_7_h
  | 7, .l => .res_7_l
  | 7, .a => .res_7_a

/-- `RES b,(HL)` (44_rotate_shift_bit.md R246). -/
def Instr.resMem : Fin 8 → Instr
  | 0 => .res_0_mhl
  | 1 => .res_1_mhl
  | 2 => .res_2_mhl
  | 3 => .res_3_mhl
  | 4 => .res_4_mhl
  | 5 => .res_5_mhl
  | 6 => .res_6_mhl
  | 7 => .res_7_mhl

/-- `SET b,r` (44_rotate_shift_bit.md R247). -/
def Instr.setReg : Fin 8 → Reg8 → Instr
  | 0, .b => .set_0_b
  | 0, .c => .set_0_c
  | 0, .d => .set_0_d
  | 0, .e => .set_0_e
  | 0, .h => .set_0_h
  | 0, .l => .set_0_l
  | 0, .a => .set_0_a
  | 1, .b => .set_1_b
  | 1, .c => .set_1_c
  | 1, .d => .set_1_d
  | 1, .e => .set_1_e
  | 1, .h => .set_1_h
  | 1, .l => .set_1_l
  | 1, .a => .set_1_a
  | 2, .b => .set_2_b
  | 2, .c => .set_2_c
  | 2, .d => .set_2_d
  | 2, .e => .set_2_e
  | 2, .h => .set_2_h
  | 2, .l => .set_2_l
  | 2, .a => .set_2_a
  | 3, .b => .set_3_b
  | 3, .c => .set_3_c
  | 3, .d => .set_3_d
  | 3, .e => .set_3_e
  | 3, .h => .set_3_h
  | 3, .l => .set_3_l
  | 3, .a => .set_3_a
  | 4, .b => .set_4_b
  | 4, .c => .set_4_c
  | 4, .d => .set_4_d
  | 4, .e => .set_4_e
  | 4, .h => .set_4_h
  | 4, .l => .set_4_l
  | 4, .a => .set_4_a
  | 5, .b => .set_5_b
  | 5, .c => .set_5_c
  | 5, .d => .set_5_d
  | 5, .e => .set_5_e
  | 5, .h => .set_5_h
  | 5, .l => .set_5_l
  | 5, .a => .set_5_a
  | 6, .b => .set_6_b
  | 6, .c => .set_6_c
  | 6, .d => .set_6_d
  | 6, .e => .set_6_e
  | 6, .h => .set_6_h
  | 6, .l => .set_6_l
  | 6, .a => .set_6_a
  | 7, .b => .set_7_b
  | 7, .c => .set_7_c
  | 7, .d => .set_7_d
  | 7, .e => .set_7_e
  | 7, .h => .set_7_h
  | 7, .l => .set_7_l
  | 7, .a => .set_7_a

/-- `SET b,(HL)` (44_rotate_shift_bit.md R247). -/
def Instr.setMem : Fin 8 → Instr
  | 0 => .set_0_mhl
  | 1 => .set_1_mhl
  | 2 => .set_2_mhl
  | 3 => .set_3_mhl
  | 4 => .set_4_mhl
  | 5 => .set_5_mhl
  | 6 => .set_6_mhl
  | 7 => .set_7_mhl

/-- The eleven undefined first bytes, each with its row of the table (30_encoding.md R123, 46_system.md R288). -/
def Instr.undefinedBytes : List (Byte × Instr) :=
  [(0xD3, .illegal_d3), (0xDB, .illegal_db), (0xDD, .illegal_dd), (0xE3, .illegal_e3), (0xE4, .illegal_e4), (0xEB, .illegal_eb), (0xEC, .illegal_ec), (0xED, .illegal_ed), (0xF4, .illegal_f4), (0xFC, .illegal_fc), (0xFD, .illegal_fd)]

end Sys2Proof
end

