-- ==== Sys2Proof/WellFormed.lean ====
section
/-! DEFINITION. Which terms of the syntax are instructions the encoding admits, and which ROM images a machine can be
built from. A register selector, a condition, a bit index and an immediate are bounded by their types; the one operand
a term can hold out of range is the signed displacement (30_encoding.md R115). -/

namespace Sys2Proof

/-- A signed displacement is a two's complement byte, -128 to 127 (30_encoding.md R115). -/
def displacementFits (e : Int) : Bool := decide (-128 ≤ e) && decide (e ≤ 127)

/-- The displacement operand of an instruction of format F2e (30_encoding.md R110), if it has one. -/
def Instr.displacement? : Instr → Option Int
  | .jr_e e => some e
  | .jr_nz_e e => some e
  | .jr_z_e e => some e
  | .jr_nc_e e => some e
  | .jr_c_e e => some e
  | .add_sp_e e => some e
  | .ld_hl_sp_e e => some e
  | _ => none

/-- A term is well formed when its displacement, if it has one, fits in a byte. -/
def Instr.wellFormed (i : Instr) : Bool :=
  match i.displacement? with
  | some e => displacementFits e
  | none => true

/-- The two ROM images of a run have exactly the sizes of 00_scope.md R6; any other image is refused before the machine
exists. -/
def romImagesFit (boot cart : List Byte) : Bool :=
  boot.length == bootRomSize && cart.length == cartRomSize

end Sys2Proof
end

