-- ==== Sys2Proof/Decode.lean ====
section
/-! DEFINITION. The decoder, total on every list of bytes, and after it the encoder, both from the tables of
30_encoding.md: the first-byte map R121, the prefixed space R122, the lengths R125. -/

namespace Sys2Proof

/-! ### Bytes and words -/

/-- Bits 15:8 of a word. -/
def hiByte (w : Word) : Byte := w.extractLsb' 8 8

/-- Bits 7:0 of a word. -/
def loByte (w : Word) : Byte := w.extractLsb' 0 8

/-- `hi ++ lo`, the high part in the high bits (00_scope.md R10). -/
def joinBytes (hi lo : Byte) : Word := hi ++ lo

/-- `zext_16(v)` (00_scope.md R10). -/
def zext16 (v : Byte) : Word := v.setWidth 16

theorem joinBytes_toNat (hi lo : Byte) : (joinBytes hi lo).toNat = hi.toNat * 256 + lo.toNat := by
  unfold joinBytes
  rw [BitVec.toNat_append, Nat.shiftLeft_eq, Nat.mul_comm, ← Nat.two_pow_add_eq_or_of_lt lo.isLt]

theorem hiByte_toNat (w : Word) : (hiByte w).toNat = w.toNat / 256 := by
  unfold hiByte
  rw [BitVec.extractLsb'_toNat, Nat.shiftRight_eq_div_pow]
  have := w.isLt
  omega

theorem loByte_toNat (w : Word) : (loByte w).toNat = w.toNat % 256 := by
  unfold loByte
  rw [BitVec.extractLsb'_toNat]
  simp

@[simp] theorem hiByte_joinBytes (hi lo : Byte) : hiByte (joinBytes hi lo) = hi := by
  apply BitVec.eq_of_toNat_eq
  rw [hiByte_toNat, joinBytes_toNat]
  have := lo.isLt
  omega

@[simp] theorem loByte_joinBytes (hi lo : Byte) : loByte (joinBytes hi lo) = lo := by
  apply BitVec.eq_of_toNat_eq
  rw [loByte_toNat, joinBytes_toNat]
  have := lo.isLt
  omega

@[simp] theorem joinBytes_hiByte_loByte (w : Word) : joinBytes (hiByte w) (loByte w) = w := by
  apply BitVec.eq_of_toNat_eq
  rw [joinBytes_toNat, hiByte_toNat, loByte_toNat]
  omega

/-! ### The maps -/

/-- A displacement byte read as two's complement (30_encoding.md R115). -/
def displacementOf (b : Byte) : Int := b.toInt

/-- The byte that carries a displacement (30_encoding.md R115). -/
def displacementByte (e : Int) : Byte := BitVec.ofInt 8 e

/-- What the first byte of an instruction says of the bytes after it (30_encoding.md R110, R125). -/
inductive OpcodeRow where
  /-- Format F1: the first byte is the whole instruction, or an undefined byte. -/
  | one (i : Instr)
  /-- Two bytes, the second of any value and never read: STOP (46_system.md R283). -/
  | skip (i : Instr)
  /-- Format F2n: an unsigned 8-bit immediate follows. -/
  | imm8 (f : Byte → Instr)
  /-- Format F2e: a signed displacement follows. -/
  | disp (f : Int → Instr)
  /-- Format F3: a 16-bit immediate follows, low byte first. -/
  | imm16 (f : Word → Instr)
  /-- Format FCB: the prefix; a sub-opcode follows. -/
  | prefixed

/-- Row 0x of the first-byte map (30_encoding.md R121). -/
def opcodeRow0 : List OpcodeRow :=
  [.one .nop, .imm16 .ld_bc_nn, .one .ld_mbc_a, .one .inc_bc,
   .one .inc_b, .one .dec_b, .imm8 .ld_b_n, .one .rlca,
   .imm16 .ld_mnn_sp, .one .add_hl_bc, .one .ld_a_mbc, .one .dec_bc,
   .one .inc_c, .one .dec_c, .imm8 .ld_c_n, .one .rrca]

/-- Row 1x of the first-byte map (30_encoding.md R121). -/
def opcodeRow1 : List OpcodeRow :=
  [.skip .stop, .imm16 .ld_de_nn, .one .ld_mde_a, .one .inc_de,
   .one .inc_d, .one .dec_d, .imm8 .ld_d_n, .one .rla,
   .disp .jr_e, .one .add_hl_de, .one .ld_a_mde, .one .dec_de,
   .one .inc_e, .one .dec_e, .imm8 .ld_e_n, .one .rra]

/-- Row 2x of the first-byte map (30_encoding.md R121). -/
def opcodeRow2 : List OpcodeRow :=
  [.disp .jr_nz_e, .imm16 .ld_hl_nn, .one .ld_mhli_a, .one .inc_hl,
   .one .inc_h, .one .dec_h, .imm8 .ld_h_n, .one .daa,
   .disp .jr_z_e, .one .add_hl_hl, .one .ld_a_mhli, .one .dec_hl,
   .one .inc_l, .one .dec_l, .imm8 .ld_l_n, .one .cpl]

/-- Row 3x of the first-byte map (30_encoding.md R121). -/
def opcodeRow3 : List OpcodeRow :=
  [.disp .jr_nc_e, .imm16 .ld_sp_nn, .one .ld_mhld_a, .one .inc_sp,
   .one .inc_mhl, .one .dec_mhl, .imm8 .ld_mhl_n, .one .scf,
   .disp .jr_c_e, .one .add_hl_sp, .one .ld_a_mhld, .one .dec_sp,
   .one .inc_a, .one .dec_a, .imm8 .ld_a_n, .one .ccf]

/-- Row 4x of the first-byte map (30_encoding.md R121). -/
def opcodeRow4 : List OpcodeRow :=
  [.one .ld_b_b, .one .ld_b_c, .one .ld_b_d, .one .ld_b_e,
   .one .ld_b_h, .one .ld_b_l, .one .ld_b_mhl, .one .ld_b_a,
   .one .ld_c_b, .one .ld_c_c, .one .ld_c_d, .one .ld_c_e,
   .one .ld_c_h, .one .ld_c_l, .one .ld_c_mhl, .one .ld_c_a]

/-- Row 5x of the first-byte map (30_encoding.md R121). -/
def opcodeRow5 : List OpcodeRow :=
  [.one .ld_d_b, .one .ld_d_c, .one .ld_d_d, .one .ld_d_e,
   .one .ld_d_h, .one .ld_d_l, .one .ld_d_mhl, .one .ld_d_a,
   .one .ld_e_b, .one .ld_e_c, .one .ld_e_d, .one .ld_e_e,
   .one .ld_e_h, .one .ld_e_l, .one .ld_e_mhl, .one .ld_e_a]

/-- Row 6x of the first-byte map (30_encoding.md R121). -/
def opcodeRow6 : List OpcodeRow :=
  [.one .ld_h_b, .one .ld_h_c, .one .ld_h_d, .one .ld_h_e,
   .one .ld_h_h, .one .ld_h_l, .one .ld_h_mhl, .one .ld_h_a,
   .one .ld_l_b, .one .ld_l_c, .one .ld_l_d, .one .ld_l_e,
   .one .ld_l_h, .one .ld_l_l, .one .ld_l_mhl, .one .ld_l_a]

/-- Row 7x of the first-byte map (30_encoding.md R121). -/
def opcodeRow7 : List OpcodeRow :=
  [.one .ld_mhl_b, .one .ld_mhl_c, .one .ld_mhl_d, .one .ld_mhl_e,
   .one .ld_mhl_h, .one .ld_mhl_l, .one .halt, .one .ld_mhl_a,
   .one .ld_a_b, .one .ld_a_c, .one .ld_a_d, .one .ld_a_e,
   .one .ld_a_h, .one .ld_a_l, .one .ld_a_mhl, .one .ld_a_a]

/-- Row 8x of the first-byte map (30_encoding.md R121). -/
def opcodeRow8 : List OpcodeRow :=
  [.one .add_a_b, .one .add_a_c, .one .add_a_d, .one .add_a_e,
   .one .add_a_h, .one .add_a_l, .one .add_a_mhl, .one .add_a_a,
   .one .adc_a_b, .one .adc_a_c, .one .adc_a_d, .one .adc_a_e,
   .one .adc_a_h, .one .adc_a_l, .one .adc_a_mhl, .one .adc_a_a]

/-- Row 9x of the first-byte map (30_encoding.md R121). -/
def opcodeRow9 : List OpcodeRow :=
  [.one .sub_b, .one .sub_c, .one .sub_d, .one .sub_e,
   .one .sub_h, .one .sub_l, .one .sub_mhl, .one .sub_a,
   .one .sbc_a_b, .one .sbc_a_c, .one .sbc_a_d, .one .sbc_a_e,
   .one .sbc_a_h, .one .sbc_a_l, .one .sbc_a_mhl, .one .sbc_a_a]

/-- Row Ax of the first-byte map (30_encoding.md R121). -/
def opcodeRowA : List OpcodeRow :=
  [.one .and_b, .one .and_c, .one .and_d, .one .and_e,
   .one .and_h, .one .and_l, .one .and_mhl, .one .and_a,
   .one .xor_b, .one .xor_c, .one .xor_d, .one .xor_e,
   .one .xor_h, .one .xor_l, .one .xor_mhl, .one .xor_a]

/-- Row Bx of the first-byte map (30_encoding.md R121). -/
def opcodeRowB : List OpcodeRow :=
  [.one .or_b, .one .or_c, .one .or_d, .one .or_e,
   .one .or_h, .one .or_l, .one .or_mhl, .one .or_a,
   .one .cp_b, .one .cp_c, .one .cp_d, .one .cp_e,
   .one .cp_h, .one .cp_l, .one .cp_mhl, .one .cp_a]

/-- Row Cx of the first-byte map (30_encoding.md R121). -/
def opcodeRowC : List OpcodeRow :=
  [.one .ret_nz, .one .pop_bc, .imm16 .jp_nz_nn, .imm16 .jp_nn,
   .imm16 .call_nz_nn, .one .push_bc, .imm8 .add_a_n, .one .rst_00,
   .one .ret_z, .one .ret, .imm16 .jp_z_nn, .prefixed,
   .imm16 .call_z_nn, .imm16 .call_nn, .imm8 .adc_a_n, .one .rst_08]

/-- Row Dx of the first-byte map (30_encoding.md R121). -/
def opcodeRowD : List OpcodeRow :=
  [.one .ret_nc, .one .pop_de, .imm16 .jp_nc_nn, .one .illegal_d3,
   .imm16 .call_nc_nn, .one .push_de, .imm8 .sub_n, .one .rst_10,
   .one .ret_c, .one .reti, .imm16 .jp_c_nn, .one .illegal_db,
   .imm16 .call_c_nn, .one .illegal_dd, .imm8 .sbc_a_n, .one .rst_18]

/-- Row Ex of the first-byte map (30_encoding.md R121). -/
def opcodeRowE : List OpcodeRow :=
  [.imm8 .ldh_mn_a, .one .pop_hl, .one .ldh_mc_a, .one .illegal_e3,
   .one .illegal_e4, .one .push_hl, .imm8 .and_n, .one .rst_20,
   .disp .add_sp_e, .one .jp_hl, .imm16 .ld_mnn_a, .one .illegal_eb,
   .one .illegal_ec, .one .illegal_ed, .imm8 .xor_n, .one .rst_28]

/-- Row Fx of the first-byte map (30_encoding.md R121). -/
def opcodeRowF : List OpcodeRow :=
  [.imm8 .ldh_a_mn, .one .pop_af, .one .ldh_a_mc, .one .di,
   .one .illegal_f4, .one .push_af, .imm8 .or_n, .one .rst_30,
   .disp .ld_hl_sp_e, .one .ld_sp_hl, .imm16 .ld_a_mnn, .one .ei,
   .one .illegal_fc, .one .illegal_fd, .imm8 .cp_n, .one .rst_38]

/-- The first-byte map (30_encoding.md R121): the row of a high nibble. -/
def opcodeMap : List (List OpcodeRow) :=
  [opcodeRow0, opcodeRow1, opcodeRow2, opcodeRow3, opcodeRow4, opcodeRow5, opcodeRow6, opcodeRow7,
   opcodeRow8, opcodeRow9, opcodeRowA, opcodeRowB, opcodeRowC, opcodeRowD, opcodeRowE, opcodeRowF]

theorem opcodeMap_length : opcodeMap.length = 16 := rfl

theorem opcodeMap_line_length : ∀ line ∈ opcodeMap, line.length = 16 := by decide

/-- Sub-opcodes 0x00 to 0x0F of the prefixed space (30_encoding.md R122). -/
def subRow0 : List Instr :=
  [.rlc_b, .rlc_c, .rlc_d, .rlc_e, .rlc_h, .rlc_l, .rlc_mhl, .rlc_a,
   .rrc_b, .rrc_c, .rrc_d, .rrc_e, .rrc_h, .rrc_l, .rrc_mhl, .rrc_a]

/-- Sub-opcodes 0x10 to 0x1F of the prefixed space (30_encoding.md R122). -/
def subRow1 : List Instr :=
  [.rl_b, .rl_c, .rl_d, .rl_e, .rl_h, .rl_l, .rl_mhl, .rl_a,
   .rr_b, .rr_c, .rr_d, .rr_e, .rr_h, .rr_l, .rr_mhl, .rr_a]

/-- Sub-opcodes 0x20 to 0x2F of the prefixed space (30_encoding.md R122). -/
def subRow2 : List Instr :=
  [.sla_b, .sla_c, .sla_d, .sla_e, .sla_h, .sla_l, .sla_mhl, .sla_a,
   .sra_b, .sra_c, .sra_d, .sra_e, .sra_h, .sra_l, .sra_mhl, .sra_a]

/-- Sub-opcodes 0x30 to 0x3F of the prefixed space (30_encoding.md R122). -/
def subRow3 : List Instr :=
  [.swap_b, .swap_c, .swap_d, .swap_e, .swap_h, .swap_l, .swap_mhl, .swap_a,
   .srl_b, .srl_c, .srl_d, .srl_e, .srl_h, .srl_l, .srl_mhl, .srl_a]

/-- Sub-opcodes 0x40 to 0x4F of the prefixed space (30_encoding.md R122). -/
def subRow4 : List Instr :=
  [.bit_0_b, .bit_0_c, .bit_0_d, .bit_0_e, .bit_0_h, .bit_0_l, .bit_0_mhl, .bit_0_a,
   .bit_1_b, .bit_1_c, .bit_1_d, .bit_1_e, .bit_1_h, .bit_1_l, .bit_1_mhl, .bit_1_a]

/-- Sub-opcodes 0x50 to 0x5F of the prefixed space (30_encoding.md R122). -/
def subRow5 : List Instr :=
  [.bit_2_b, .bit_2_c, .bit_2_d, .bit_2_e, .bit_2_h, .bit_2_l, .bit_2_mhl, .bit_2_a,
   .bit_3_b, .bit_3_c, .bit_3_d, .bit_3_e, .bit_3_h, .bit_3_l, .bit_3_mhl, .bit_3_a]

/-- Sub-opcodes 0x60 to 0x6F of the prefixed space (30_encoding.md R122). -/
def subRow6 : List Instr :=
  [.bit_4_b, .bit_4_c, .bit_4_d, .bit_4_e, .bit_4_h, .bit_4_l, .bit_4_mhl, .bit_4_a,
   .bit_5_b, .bit_5_c, .bit_5_d, .bit_5_e, .bit_5_h, .bit_5_l, .bit_5_mhl, .bit_5_a]

/-- Sub-opcodes 0x70 to 0x7F of the prefixed space (30_encoding.md R122). -/
def subRow7 : List Instr :=
  [.bit_6_b, .bit_6_c, .bit_6_d, .bit_6_e, .bit_6_h, .bit_6_l, .bit_6_mhl, .bit_6_a,
   .bit_7_b, .bit_7_c, .bit_7_d, .bit_7_e, .bit_7_h, .bit_7_l, .bit_7_mhl, .bit_7_a]

/-- Sub-opcodes 0x80 to 0x8F of the prefixed space (30_encoding.md R122). -/
def subRow8 : List Instr :=
  [.res_0_b, .res_0_c, .res_0_d, .res_0_e, .res_0_h, .res_0_l, .res_0_mhl, .res_0_a,
   .res_1_b, .res_1_c, .res_1_d, .res_1_e, .res_1_h, .res_1_l, .res_1_mhl, .res_1_a]

/-- Sub-opcodes 0x90 to 0x9F of the prefixed space (30_encoding.md R122). -/
def subRow9 : List Instr :=
  [.res_2_b, .res_2_c, .res_2_d, .res_2_e, .res_2_h, .res_2_l, .res_2_mhl, .res_2_a,
   .res_3_b, .res_3_c, .res_3_d, .res_3_e, .res_3_h, .res_3_l, .res_3_mhl, .res_3_a]

/-- Sub-opcodes 0xA0 to 0xAF of the prefixed space (30_encoding.md R122). -/
def subRowA : List Instr :=
  [.res_4_b, .res_4_c, .res_4_d, .res_4_e, .res_4_h, .res_4_l, .res_4_mhl, .res_4_a,
   .res_5_b, .res_5_c, .res_5_d, .res_5_e, .res_5_h, .res_5_l, .res_5_mhl, .res_5_a]

/-- Sub-opcodes 0xB0 to 0xBF of the prefixed space (30_encoding.md R122). -/
def subRowB : List Instr :=
  [.res_6_b, .res_6_c, .res_6_d, .res_6_e, .res_6_h, .res_6_l, .res_6_mhl, .res_6_a,
   .res_7_b, .res_7_c, .res_7_d, .res_7_e, .res_7_h, .res_7_l, .res_7_mhl, .res_7_a]

/-- Sub-opcodes 0xC0 to 0xCF of the prefixed space (30_encoding.md R122). -/
def subRowC : List Instr :=
  [.set_0_b, .set_0_c, .set_0_d, .set_0_e, .set_0_h, .set_0_l, .set_0_mhl, .set_0_a,
   .set_1_b, .set_1_c, .set_1_d, .set_1_e, .set_1_h, .set_1_l, .set_1_mhl, .set_1_a]

/-- Sub-opcodes 0xD0 to 0xDF of the prefixed space (30_encoding.md R122). -/
def subRowD : List Instr :=
  [.set_2_b, .set_2_c, .set_2_d, .set_2_e, .set_2_h, .set_2_l, .set_2_mhl, .set_2_a,
   .set_3_b, .set_3_c, .set_3_d, .set_3_e, .set_3_h, .set_3_l, .set_3_mhl, .set_3_a]

/-- Sub-opcodes 0xE0 to 0xEF of the prefixed space (30_encoding.md R122). -/
def subRowE : List Instr :=
  [.set_4_b, .set_4_c, .set_4_d, .set_4_e, .set_4_h, .set_4_l, .set_4_mhl, .set_4_a,
   .set_5_b, .set_5_c, .set_5_d, .set_5_e, .set_5_h, .set_5_l, .set_5_mhl, .set_5_a]

/-- Sub-opcodes 0xF0 to 0xFF of the prefixed space (30_encoding.md R122). -/
def subRowF : List Instr :=
  [.set_6_b, .set_6_c, .set_6_d, .set_6_e, .set_6_h, .set_6_l, .set_6_mhl, .set_6_a,
   .set_7_b, .set_7_c, .set_7_d, .set_7_e, .set_7_h, .set_7_l, .set_7_mhl, .set_7_a]

/-- The prefixed space (30_encoding.md R122): the row of a high nibble. -/
def subMap : List (List Instr) :=
  [subRow0, subRow1, subRow2, subRow3, subRow4, subRow5, subRow6, subRow7,
   subRow8, subRow9, subRowA, subRowB, subRowC, subRowD, subRowE, subRowF]

theorem subMap_length : subMap.length = 16 := rfl

theorem subMap_line_length : ∀ line ∈ subMap, line.length = 16 := by decide

/-- The high nibble of a byte. -/
def hiNibble (b : Byte) : Fin 16 := ⟨b.toNat / 16, by have := b.isLt; omega⟩

/-- The low nibble of a byte. -/
def loNibble (b : Byte) : Fin 16 := ⟨b.toNat % 16, by omega⟩

/-- The row of the first-byte map for a first byte: line the high nibble, column the low nibble. -/
def opcodeRowOf (op : Byte) : OpcodeRow :=
  have hi : (hiNibble op).val < opcodeMap.length := by rw [opcodeMap_length]; exact (hiNibble op).isLt
  (opcodeMap[(hiNibble op).val])[(loNibble op).val]'(by
    rw [opcodeMap_line_length _ (List.getElem_mem hi)]; exact (loNibble op).isLt)

/-- The prefixed instruction of a sub-opcode: all 256 values are defined (30_encoding.md R122). -/
def subInstr (sub : Byte) : Instr :=
  have hi : (hiNibble sub).val < subMap.length := by rw [subMap_length]; exact (hiNibble sub).isLt
  (subMap[(hiNibble sub).val])[(loNibble sub).val]'(by
    rw [subMap_line_length _ (List.getElem_mem hi)]; exact (loNibble sub).isLt)

/-- How many operand bytes the CPU reads after the opcode byte. STOP's second byte is skipped and not read
(46_system.md R283). -/
def operandReads (op : Byte) : Nat :=
  match opcodeRowOf op with
  | .one _ => 0
  | .skip _ => 0
  | .imm8 _ => 1
  | .disp _ => 1
  | .imm16 _ => 2
  | .prefixed => 1

/-- The instruction a first byte names with its operand, a one-byte operand or sub-opcode in `d8`, a 16-bit immediate in
`d16`. -/
def instrOf (op d8 : Byte) (d16 : Word) : Instr :=
  match opcodeRowOf op with
  | .one i => i
  | .skip i => i
  | .imm8 f => f d8
  | .disp f => f (displacementOf d8)
  | .imm16 f => f d16
  | .prefixed => subInstr d8

/-- Why a list of bytes is no instruction. Every byte value has a row (30_encoding.md R124), so only a list that ends
too early is refused. -/
inductive DecodeError where
  /-- There is no first byte. -/
  | noBytes
  /-- The bytes end before the instruction that `op` starts does. -/
  | truncated (op : Byte)
  deriving DecidableEq, Repr

/-- Decode the first instruction of a list of bytes: the instruction and the bytes after it. A decoder reads the first
byte, takes the length from R125, and for the prefix reads exactly one more byte (30_encoding.md R126). -/
def decode : List Byte → Except DecodeError (Instr × List Byte)
  | [] => .error .noBytes
  | op :: rest =>
    match opcodeRowOf op, rest with
    | .one i, rest => .ok (i, rest)
    | .skip i, _ :: rest => .ok (i, rest)
    | .imm8 f, n :: rest => .ok (f n, rest)
    | .disp f, e :: rest => .ok (f (displacementOf e), rest)
    | .imm16 f, lo :: hi :: rest => .ok (f (joinBytes hi lo), rest)
    | .prefixed, sub :: rest => .ok (subInstr sub, rest)
    | _, _ => .error (.truncated op)

/-- The bytes of a table word. opcode_table.json numbers a one-byte row's bits from the first byte up, and a prefixed
row's with the first byte 0xCB in bits 15:8 (30_encoding.md R129). Bits at and above `nbits` are 0 (log 8). -/
def tableBytes (nbits w : Nat) : List Byte :=
  let v := w % 2 ^ nbits
  if nbits == 16 && v / 256 == 0xCB then [0xCB, BitVec.ofNat 8 v, 0]
  else [BitVec.ofNat 8 v, BitVec.ofNat 8 (v / 256), BitVec.ofNat 8 (v / 65536)]

/-- The instruction the decoder reads from a table word. -/
def decodeTableWord (nbits w : Nat) : Option Instr :=
  match decode (tableBytes nbits w) with
  | .ok (i, _) => some i
  | .error _ => none

/-- The bytes of an instruction, first byte first. STOP's second byte is 0x00 (30_encoding.md R128, log 13). -/
def encode : Instr → List Byte
  | .nop => [0x00]
  | .ld_bc_nn nn => [0x01, loByte nn, hiByte nn]
  | .ld_mbc_a => [0x02]
  | .inc_bc => [0x03]
  | .inc_b => [0x04]
  | .dec_b => [0x05]
  | .ld_b_n n => [0x06, n]
  | .rlca => [0x07]
  | .ld_mnn_sp nn => [0x08, loByte nn, hiByte nn]
  | .add_hl_bc => [0x09]
  | .ld_a_mbc => [0x0A]
  | .dec_bc => [0x0B]
  | .inc_c => [0x0C]
  | .dec_c => [0x0D]
  | .ld_c_n n => [0x0E, n]
  | .rrca => [0x0F]
  | .stop => [0x10, 0x00]
  | .ld_de_nn nn => [0x11, loByte nn, hiByte nn]
  | .ld_mde_a => [0x12]
  | .inc_de => [0x13]
  | .inc_d => [0x14]
  | .dec_d => [0x15]
  | .ld_d_n n => [0x16, n]
  | .rla => [0x17]
  | .jr_e e => [0x18, displacementByte e]
  | .add_hl_de => [0x19]
  | .ld_a_mde => [0x1A]
  | .dec_de => [0x1B]
  | .inc_e => [0x1C]
  | .dec_e => [0x1D]
  | .ld_e_n n => [0x1E, n]
  | .rra => [0x1F]
  | .jr_nz_e e => [0x20, displacementByte e]
  | .ld_hl_nn nn => [0x21, loByte nn, hiByte nn]
  | .ld_mhli_a => [0x22]
  | .inc_hl => [0x23]
  | .inc_h => [0x24]
  | .dec_h => [0x25]
  | .ld_h_n n => [0x26, n]
  | .daa => [0x27]
  | .jr_z_e e => [0x28, displacementByte e]
  | .add_hl_hl => [0x29]
  | .ld_a_mhli => [0x2A]
  | .dec_hl => [0x2B]
  | .inc_l => [0x2C]
  | .dec_l => [0x2D]
  | .ld_l_n n => [0x2E, n]
  | .cpl => [0x2F]
  | .jr_nc_e e => [0x30, displacementByte e]
  | .ld_sp_nn nn => [0x31, loByte nn, hiByte nn]
  | .ld_mhld_a => [0x32]
  | .inc_sp => [0x33]
  | .inc_mhl => [0x34]
  | .dec_mhl => [0x35]
  | .ld_mhl_n n => [0x36, n]
  | .scf => [0x37]
  | .jr_c_e e => [0x38, displacementByte e]
  | .add_hl_sp => [0x39]
  | .ld_a_mhld => [0x3A]
  | .dec_sp => [0x3B]
  | .inc_a => [0x3C]
  | .dec_a => [0x3D]
  | .ld_a_n n => [0x3E, n]
  | .ccf => [0x3F]
  | .ld_b_b => [0x40]
  | .ld_b_c => [0x41]
  | .ld_b_d => [0x42]
  | .ld_b_e => [0x43]
  | .ld_b_h => [0x44]
  | .ld_b_l => [0x45]
  | .ld_b_mhl => [0x46]
  | .ld_b_a => [0x47]
  | .ld_c_b => [0x48]
  | .ld_c_c => [0x49]
  | .ld_c_d => [0x4A]
  | .ld_c_e => [0x4B]
  | .ld_c_h => [0x4C]
  | .ld_c_l => [0x4D]
  | .ld_c_mhl => [0x4E]
  | .ld_c_a => [0x4F]
  | .ld_d_b => [0x50]
  | .ld_d_c => [0x51]
  | .ld_d_d => [0x52]
  | .ld_d_e => [0x53]
  | .ld_d_h => [0x54]
  | .ld_d_l => [0x55]
  | .ld_d_mhl => [0x56]
  | .ld_d_a => [0x57]
  | .ld_e_b => [0x58]
  | .ld_e_c => [0x59]
  | .ld_e_d => [0x5A]
  | .ld_e_e => [0x5B]
  | .ld_e_h => [0x5C]
  | .ld_e_l => [0x5D]
  | .ld_e_mhl => [0x5E]
  | .ld_e_a => [0x5F]
  | .ld_h_b => [0x60]
  | .ld_h_c => [0x61]
  | .ld_h_d => [0x62]
  | .ld_h_e => [0x63]
  | .ld_h_h => [0x64]
  | .ld_h_l => [0x65]
  | .ld_h_mhl => [0x66]
  | .ld_h_a => [0x67]
  | .ld_l_b => [0x68]
  | .ld_l_c => [0x69]
  | .ld_l_d => [0x6A]
  | .ld_l_e => [0x6B]
  | .ld_l_h => [0x6C]
  | .ld_l_l => [0x6D]
  | .ld_l_mhl => [0x6E]
  | .ld_l_a => [0x6F]
  | .ld_mhl_b => [0x70]
  | .ld_mhl_c => [0x71]
  | .ld_mhl_d => [0x72]
  | .ld_mhl_e => [0x73]
  | .ld_mhl_h => [0x74]
  | .ld_mhl_l => [0x75]
  | .halt => [0x76]
  | .ld_mhl_a => [0x77]
  | .ld_a_b => [0x78]
  | .ld_a_c => [0x79]
  | .ld_a_d => [0x7A]
  | .ld_a_e => [0x7B]
  | .ld_a_h => [0x7C]
  | .ld_a_l => [0x7D]
  | .ld_a_mhl => [0x7E]
  | .ld_a_a => [0x7F]
  | .add_a_b => [0x80]
  | .add_a_c => [0x81]
  | .add_a_d => [0x82]
  | .add_a_e => [0x83]
  | .add_a_h => [0x84]
  | .add_a_l => [0x85]
  | .add_a_mhl => [0x86]
  | .add_a_a => [0x87]
  | .adc_a_b => [0x88]
  | .adc_a_c => [0x89]
  | .adc_a_d => [0x8A]
  | .adc_a_e => [0x8B]
  | .adc_a_h => [0x8C]
  | .adc_a_l => [0x8D]
  | .adc_a_mhl => [0x8E]
  | .adc_a_a => [0x8F]
  | .sub_b => [0x90]
  | .sub_c => [0x91]
  | .sub_d => [0x92]
  | .sub_e => [0x93]
  | .sub_h => [0x94]
  | .sub_l => [0x95]
  | .sub_mhl => [0x96]
  | .sub_a => [0x97]
  | .sbc_a_b => [0x98]
  | .sbc_a_c => [0x99]
  | .sbc_a_d => [0x9A]
  | .sbc_a_e => [0x9B]
  | .sbc_a_h => [0x9C]
  | .sbc_a_l => [0x9D]
  | .sbc_a_mhl => [0x9E]
  | .sbc_a_a => [0x9F]
  | .and_b => [0xA0]
  | .and_c => [0xA1]
  | .and_d => [0xA2]
  | .and_e => [0xA3]
  | .and_h => [0xA4]
  | .and_l => [0xA5]
  | .and_mhl => [0xA6]
  | .and_a => [0xA7]
  | .xor_b => [0xA8]
  | .xor_c => [0xA9]
  | .xor_d => [0xAA]
  | .xor_e => [0xAB]
  | .xor_h => [0xAC]
  | .xor_l => [0xAD]
  | .xor_mhl => [0xAE]
  | .xor_a => [0xAF]
  | .or_b => [0xB0]
  | .or_c => [0xB1]
  | .or_d => [0xB2]
  | .or_e => [0xB3]
  | .or_h => [0xB4]
  | .or_l => [0xB5]
  | .or_mhl => [0xB6]
  | .or_a => [0xB7]
  | .cp_b => [0xB8]
  | .cp_c => [0xB9]
  | .cp_d => [0xBA]
  | .cp_e => [0xBB]
  | .cp_h => [0xBC]
  | .cp_l => [0xBD]
  | .cp_mhl => [0xBE]
  | .cp_a => [0xBF]
  | .ret_nz => [0xC0]
  | .pop_bc => [0xC1]
  | .jp_nz_nn nn => [0xC2, loByte nn, hiByte nn]
  | .jp_nn nn => [0xC3, loByte nn, hiByte nn]
  | .call_nz_nn nn => [0xC4, loByte nn, hiByte nn]
  | .push_bc => [0xC5]
  | .add_a_n n => [0xC6, n]
  | .rst_00 => [0xC7]
  | .ret_z => [0xC8]
  | .ret => [0xC9]
  | .jp_z_nn nn => [0xCA, loByte nn, hiByte nn]
  | .call_z_nn nn => [0xCC, loByte nn, hiByte nn]
  | .call_nn nn => [0xCD, loByte nn, hiByte nn]
  | .adc_a_n n => [0xCE, n]
  | .rst_08 => [0xCF]
  | .ret_nc => [0xD0]
  | .pop_de => [0xD1]
  | .jp_nc_nn nn => [0xD2, loByte nn, hiByte nn]
  | .illegal_d3 => [0xD3]
  | .call_nc_nn nn => [0xD4, loByte nn, hiByte nn]
  | .push_de => [0xD5]
  | .sub_n n => [0xD6, n]
  | .rst_10 => [0xD7]
  | .ret_c => [0xD8]
  | .reti => [0xD9]
  | .jp_c_nn nn => [0xDA, loByte nn, hiByte nn]
  | .illegal_db => [0xDB]
  | .call_c_nn nn => [0xDC, loByte nn, hiByte nn]
  | .illegal_dd => [0xDD]
  | .sbc_a_n n => [0xDE, n]
  | .rst_18 => [0xDF]
  | .ldh_mn_a n => [0xE0, n]
  | .pop_hl => [0xE1]
  | .ldh_mc_a => [0xE2]
  | .illegal_e3 => [0xE3]
  | .illegal_e4 => [0xE4]
  | .push_hl => [0xE5]
  | .and_n n => [0xE6, n]
  | .rst_20 => [0xE7]
  | .add_sp_e e => [0xE8, displacementByte e]
  | .jp_hl => [0xE9]
  | .ld_mnn_a nn => [0xEA, loByte nn, hiByte nn]
  | .illegal_eb => [0xEB]
  | .illegal_ec => [0xEC]
  | .illegal_ed => [0xED]
  | .xor_n n => [0xEE, n]
  | .rst_28 => [0xEF]
  | .ldh_a_mn n => [0xF0, n]
  | .pop_af => [0xF1]
  | .ldh_a_mc => [0xF2]
  | .di => [0xF3]
  | .illegal_f4 => [0xF4]
  | .push_af => [0xF5]
  | .or_n n => [0xF6, n]
  | .rst_30 => [0xF7]
  | .ld_hl_sp_e e => [0xF8, displacementByte e]
  | .ld_sp_hl => [0xF9]
  | .ld_a_mnn nn => [0xFA, loByte nn, hiByte nn]
  | .ei => [0xFB]
  | .illegal_fc => [0xFC]
  | .illegal_fd => [0xFD]
  | .cp_n n => [0xFE, n]
  | .rst_38 => [0xFF]
  | .rlc_b => [0xCB, 0x00]
  | .rlc_c => [0xCB, 0x01]
  | .rlc_d => [0xCB, 0x02]
  | .rlc_e => [0xCB, 0x03]
  | .rlc_h => [0xCB, 0x04]
  | .rlc_l => [0xCB, 0x05]
  | .rlc_mhl => [0xCB, 0x06]
  | .rlc_a => [0xCB, 0x07]
  | .rrc_b => [0xCB, 0x08]
  | .rrc_c => [0xCB, 0x09]
  | .rrc_d => [0xCB, 0x0A]
  | .rrc_e => [0xCB, 0x0B]
  | .rrc_h => [0xCB, 0x0C]
  | .rrc_l => [0xCB, 0x0D]
  | .rrc_mhl => [0xCB, 0x0E]
  | .rrc_a => [0xCB, 0x0F]
  | .rl_b => [0xCB, 0x10]
  | .rl_c => [0xCB, 0x11]
  | .rl_d => [0xCB, 0x12]
  | .rl_e => [0xCB, 0x13]
  | .rl_h => [0xCB, 0x14]
  | .rl_l => [0xCB, 0x15]
  | .rl_mhl => [0xCB, 0x16]
  | .rl_a => [0xCB, 0x17]
  | .rr_b => [0xCB, 0x18]
  | .rr_c => [0xCB, 0x19]
  | .rr_d => [0xCB, 0x1A]
  | .rr_e => [0xCB, 0x1B]
  | .rr_h => [0xCB, 0x1C]
  | .rr_l => [0xCB, 0x1D]
  | .rr_mhl => [0xCB, 0x1E]
  | .rr_a => [0xCB, 0x1F]
  | .sla_b => [0xCB, 0x20]
  | .sla_c => [0xCB, 0x21]
  | .sla_d => [0xCB, 0x22]
  | .sla_e => [0xCB, 0x23]
  | .sla_h => [0xCB, 0x24]
  | .sla_l => [0xCB, 0x25]
  | .sla_mhl => [0xCB, 0x26]
  | .sla_a => [0xCB, 0x27]
  | .sra_b => [0xCB, 0x28]
  | .sra_c => [0xCB, 0x29]
  | .sra_d => [0xCB, 0x2A]
  | .sra_e => [0xCB, 0x2B]
  | .sra_h => [0xCB, 0x2C]
  | .sra_l => [0xCB, 0x2D]
  | .sra_mhl => [0xCB, 0x2E]
  | .sra_a => [0xCB, 0x2F]
  | .swap_b => [0xCB, 0x30]
  | .swap_c => [0xCB, 0x31]
  | .swap_d => [0xCB, 0x32]
  | .swap_e => [0xCB, 0x33]
  | .swap_h => [0xCB, 0x34]
  | .swap_l => [0xCB, 0x35]
  | .swap_mhl => [0xCB, 0x36]
  | .swap_a => [0xCB, 0x37]
  | .srl_b => [0xCB, 0x38]
  | .srl_c => [0xCB, 0x39]
  | .srl_d => [0xCB, 0x3A]
  | .srl_e => [0xCB, 0x3B]
  | .srl_h => [0xCB, 0x3C]
  | .srl_l => [0xCB, 0x3D]
  | .srl_mhl => [0xCB, 0x3E]
  | .srl_a => [0xCB, 0x3F]
  | .bit_0_b => [0xCB, 0x40]
  | .bit_0_c => [0xCB, 0x41]
  | .bit_0_d => [0xCB, 0x42]
  | .bit_0_e => [0xCB, 0x43]
  | .bit_0_h => [0xCB, 0x44]
  | .bit_0_l => [0xCB, 0x45]
  | .bit_0_mhl => [0xCB, 0x46]
  | .bit_0_a => [0xCB, 0x47]
  | .bit_1_b => [0xCB, 0x48]
  | .bit_1_c => [0xCB, 0x49]
  | .bit_1_d => [0xCB, 0x4A]
  | .bit_1_e => [0xCB, 0x4B]
  | .bit_1_h => [0xCB, 0x4C]
  | .bit_1_l => [0xCB, 0x4D]
  | .bit_1_mhl => [0xCB, 0x4E]
  | .bit_1_a => [0xCB, 0x4F]
  | .bit_2_b => [0xCB, 0x50]
  | .bit_2_c => [0xCB, 0x51]
  | .bit_2_d => [0xCB, 0x52]
  | .bit_2_e => [0xCB, 0x53]
  | .bit_2_h => [0xCB, 0x54]
  | .bit_2_l => [0xCB, 0x55]
  | .bit_2_mhl => [0xCB, 0x56]
  | .bit_2_a => [0xCB, 0x57]
  | .bit_3_b => [0xCB, 0x58]
  | .bit_3_c => [0xCB, 0x59]
  | .bit_3_d => [0xCB, 0x5A]
  | .bit_3_e => [0xCB, 0x5B]
  | .bit_3_h => [0xCB, 0x5C]
  | .bit_3_l => [0xCB, 0x5D]
  | .bit_3_mhl => [0xCB, 0x5E]
  | .bit_3_a => [0xCB, 0x5F]
  | .bit_4_b => [0xCB, 0x60]
  | .bit_4_c => [0xCB, 0x61]
  | .bit_4_d => [0xCB, 0x62]
  | .bit_4_e => [0xCB, 0x63]
  | .bit_4_h => [0xCB, 0x64]
  | .bit_4_l => [0xCB, 0x65]
  | .bit_4_mhl => [0xCB, 0x66]
  | .bit_4_a => [0xCB, 0x67]
  | .bit_5_b => [0xCB, 0x68]
  | .bit_5_c => [0xCB, 0x69]
  | .bit_5_d => [0xCB, 0x6A]
  | .bit_5_e => [0xCB, 0x6B]
  | .bit_5_h => [0xCB, 0x6C]
  | .bit_5_l => [0xCB, 0x6D]
  | .bit_5_mhl => [0xCB, 0x6E]
  | .bit_5_a => [0xCB, 0x6F]
  | .bit_6_b => [0xCB, 0x70]
  | .bit_6_c => [0xCB, 0x71]
  | .bit_6_d => [0xCB, 0x72]
  | .bit_6_e => [0xCB, 0x73]
  | .bit_6_h => [0xCB, 0x74]
  | .bit_6_l => [0xCB, 0x75]
  | .bit_6_mhl => [0xCB, 0x76]
  | .bit_6_a => [0xCB, 0x77]
  | .bit_7_b => [0xCB, 0x78]
  | .bit_7_c => [0xCB, 0x79]
  | .bit_7_d => [0xCB, 0x7A]
  | .bit_7_e => [0xCB, 0x7B]
  | .bit_7_h => [0xCB, 0x7C]
  | .bit_7_l => [0xCB, 0x7D]
  | .bit_7_mhl => [0xCB, 0x7E]
  | .bit_7_a => [0xCB, 0x7F]
  | .res_0_b => [0xCB, 0x80]
  | .res_0_c => [0xCB, 0x81]
  | .res_0_d => [0xCB, 0x82]
  | .res_0_e => [0xCB, 0x83]
  | .res_0_h => [0xCB, 0x84]
  | .res_0_l => [0xCB, 0x85]
  | .res_0_mhl => [0xCB, 0x86]
  | .res_0_a => [0xCB, 0x87]
  | .res_1_b => [0xCB, 0x88]
  | .res_1_c => [0xCB, 0x89]
  | .res_1_d => [0xCB, 0x8A]
  | .res_1_e => [0xCB, 0x8B]
  | .res_1_h => [0xCB, 0x8C]
  | .res_1_l => [0xCB, 0x8D]
  | .res_1_mhl => [0xCB, 0x8E]
  | .res_1_a => [0xCB, 0x8F]
  | .res_2_b => [0xCB, 0x90]
  | .res_2_c => [0xCB, 0x91]
  | .res_2_d => [0xCB, 0x92]
  | .res_2_e => [0xCB, 0x93]
  | .res_2_h => [0xCB, 0x94]
  | .res_2_l => [0xCB, 0x95]
  | .res_2_mhl => [0xCB, 0x96]
  | .res_2_a => [0xCB, 0x97]
  | .res_3_b => [0xCB, 0x98]
  | .res_3_c => [0xCB, 0x99]
  | .res_3_d => [0xCB, 0x9A]
  | .res_3_e => [0xCB, 0x9B]
  | .res_3_h => [0xCB, 0x9C]
  | .res_3_l => [0xCB, 0x9D]
  | .res_3_mhl => [0xCB, 0x9E]
  | .res_3_a => [0xCB, 0x9F]
  | .res_4_b => [0xCB, 0xA0]
  | .res_4_c => [0xCB, 0xA1]
  | .res_4_d => [0xCB, 0xA2]
  | .res_4_e => [0xCB, 0xA3]
  | .res_4_h => [0xCB, 0xA4]
  | .res_4_l => [0xCB, 0xA5]
  | .res_4_mhl => [0xCB, 0xA6]
  | .res_4_a => [0xCB, 0xA7]
  | .res_5_b => [0xCB, 0xA8]
  | .res_5_c => [0xCB, 0xA9]
  | .res_5_d => [0xCB, 0xAA]
  | .res_5_e => [0xCB, 0xAB]
  | .res_5_h => [0xCB, 0xAC]
  | .res_5_l => [0xCB, 0xAD]
  | .res_5_mhl => [0xCB, 0xAE]
  | .res_5_a => [0xCB, 0xAF]
  | .res_6_b => [0xCB, 0xB0]
  | .res_6_c => [0xCB, 0xB1]
  | .res_6_d => [0xCB, 0xB2]
  | .res_6_e => [0xCB, 0xB3]
  | .res_6_h => [0xCB, 0xB4]
  | .res_6_l => [0xCB, 0xB5]
  | .res_6_mhl => [0xCB, 0xB6]
  | .res_6_a => [0xCB, 0xB7]
  | .res_7_b => [0xCB, 0xB8]
  | .res_7_c => [0xCB, 0xB9]
  | .res_7_d => [0xCB, 0xBA]
  | .res_7_e => [0xCB, 0xBB]
  | .res_7_h => [0xCB, 0xBC]
  | .res_7_l => [0xCB, 0xBD]
  | .res_7_mhl => [0xCB, 0xBE]
  | .res_7_a => [0xCB, 0xBF]
  | .set_0_b => [0xCB, 0xC0]
  | .set_0_c => [0xCB, 0xC1]
  | .set_0_d => [0xCB, 0xC2]
  | .set_0_e => [0xCB, 0xC3]
  | .set_0_h => [0xCB, 0xC4]
  | .set_0_l => [0xCB, 0xC5]
  | .set_0_mhl => [0xCB, 0xC6]
  | .set_0_a => [0xCB, 0xC7]
  | .set_1_b => [0xCB, 0xC8]
  | .set_1_c => [0xCB, 0xC9]
  | .set_1_d => [0xCB, 0xCA]
  | .set_1_e => [0xCB, 0xCB]
  | .set_1_h => [0xCB, 0xCC]
  | .set_1_l => [0xCB, 0xCD]
  | .set_1_mhl => [0xCB, 0xCE]
  | .set_1_a => [0xCB, 0xCF]
  | .set_2_b => [0xCB, 0xD0]
  | .set_2_c => [0xCB, 0xD1]
  | .set_2_d => [0xCB, 0xD2]
  | .set_2_e => [0xCB, 0xD3]
  | .set_2_h => [0xCB, 0xD4]
  | .set_2_l => [0xCB, 0xD5]
  | .set_2_mhl => [0xCB, 0xD6]
  | .set_2_a => [0xCB, 0xD7]
  | .set_3_b => [0xCB, 0xD8]
  | .set_3_c => [0xCB, 0xD9]
  | .set_3_d => [0xCB, 0xDA]
  | .set_3_e => [0xCB, 0xDB]
  | .set_3_h => [0xCB, 0xDC]
  | .set_3_l => [0xCB, 0xDD]
  | .set_3_mhl => [0xCB, 0xDE]
  | .set_3_a => [0xCB, 0xDF]
  | .set_4_b => [0xCB, 0xE0]
  | .set_4_c => [0xCB, 0xE1]
  | .set_4_d => [0xCB, 0xE2]
  | .set_4_e => [0xCB, 0xE3]
  | .set_4_h => [0xCB, 0xE4]
  | .set_4_l => [0xCB, 0xE5]
  | .set_4_mhl => [0xCB, 0xE6]
  | .set_4_a => [0xCB, 0xE7]
  | .set_5_b => [0xCB, 0xE8]
  | .set_5_c => [0xCB, 0xE9]
  | .set_5_d => [0xCB, 0xEA]
  | .set_5_e => [0xCB, 0xEB]
  | .set_5_h => [0xCB, 0xEC]
  | .set_5_l => [0xCB, 0xED]
  | .set_5_mhl => [0xCB, 0xEE]
  | .set_5_a => [0xCB, 0xEF]
  | .set_6_b => [0xCB, 0xF0]
  | .set_6_c => [0xCB, 0xF1]
  | .set_6_d => [0xCB, 0xF2]
  | .set_6_e => [0xCB, 0xF3]
  | .set_6_h => [0xCB, 0xF4]
  | .set_6_l => [0xCB, 0xF5]
  | .set_6_mhl => [0xCB, 0xF6]
  | .set_6_a => [0xCB, 0xF7]
  | .set_7_b => [0xCB, 0xF8]
  | .set_7_c => [0xCB, 0xF9]
  | .set_7_d => [0xCB, 0xFA]
  | .set_7_e => [0xCB, 0xFB]
  | .set_7_h => [0xCB, 0xFC]
  | .set_7_l => [0xCB, 0xFD]
  | .set_7_mhl => [0xCB, 0xFE]
  | .set_7_a => [0xCB, 0xFF]

/-- The length of an instruction in bytes (30_encoding.md R125). -/
def Instr.length (i : Instr) : Nat := (encode i).length

end Sys2Proof
end

