-- ==== Sys2Proof/Machine/State.lean ====
section
/-! DEFINITION. The state of the machine as plain data, unit by unit (10_state.md), the reasons a run can stop, and the
state after reset (70_reset_and_hazards.md R401). -/

namespace Sys2Proof.Machine

/-- Byte storage: (address, byte) pairs in one canonical form, addresses strictly rising and no entry equal to
`unlistedByte`, what an unlisted address reads as (`Memory.wf` in Ops.lean). -/
abbrev Memory := List Host.Cell

/-- The four flags (10_state.md R21). F is no register of its own: `Flags.toByte` in Operands.lean is the view (R22). -/
structure Flags where
  /-- Z, the zero flag. -/
  z : Bool
  /-- N, the subtract flag. -/
  n : Bool
  /-- H, the half-carry flag. -/
  h : Bool
  /-- C, the carry flag. -/
  c : Bool
  deriving DecidableEq, Repr

/-- The five interrupt sources, in priority order (60_exceptions.md R352). -/
inductive Source where
  | vblank | lcdStat | timer | serial | joypad
  deriving DecidableEq, Repr

/-- IR, the instruction latch: the current opcode byte, or the marker INT(k) of a dispatch in progress (10_state.md R33). -/
inductive InstrLatch where
  | opcode (op : Byte)
  | int (k : Source)
  deriving DecidableEq, Repr

/-- The CPU: register file, program counter, control state and stage pass-through (10_state.md R20 to R36). -/
structure Cpu where
  /-- A, the accumulator (R20). -/
  a : Byte
  /-- B (R20). -/
  b : Byte
  /-- C (R20). -/
  c : Byte
  /-- D (R20). -/
  d : Byte
  /-- E (R20). -/
  e : Byte
  /-- H (R20). -/
  h : Byte
  /-- L (R20). -/
  l : Byte
  /-- Z, N, H, C (R21). -/
  f : Flags
  /-- SP (R23). -/
  sp : Word
  /-- PC (R26): the address of the opcode byte while an instruction is in progress. -/
  pc : Word
  /-- IME, the interrupt master enable (R29). -/
  ime : Bool
  /-- `halted` (R30). -/
  halted : Bool
  /-- The stage counter of the pass-through (R31): 0 at an instruction boundary. -/
  stage : Nat
  /-- The one-byte datum of the pass-through (R31). -/
  d8 : Byte
  /-- The two-byte datum of the pass-through (R31). -/
  d16 : Word
  /-- The pending flags of the pass-through (R31). -/
  pf : Flags
  /-- The `ei` latch (R32). -/
  ei : Bool
  /-- The `di` latch (R32); no rule sets it. -/
  di : Bool
  /-- IR (R33). -/
  ir : InstrLatch
  /-- The diagnostic of the fatal state, opcode byte and address (R36). -/
  fatal : Option (Byte × Word)
  deriving DecidableEq, Repr

/-- The interrupt controller (10_state.md R37, R38); bit numbers are the indices of 60_exceptions.md R352. -/
structure Irq where
  /-- IE, the enable register. -/
  ie : BitVec 5
  /-- IF, the flag register. -/
  iflag : BitVec 5
  deriving DecidableEq, Repr

/-- The timer (10_state.md R39 to R42). -/
structure Timer where
  /-- `div_counter`; DIV is its high byte. -/
  div : Word
  /-- TIMA. -/
  tima : Byte
  /-- TMA. -/
  tma : Byte
  /-- TAC: enable is bit 2, select bits 1:0. -/
  tac : BitVec 3
  deriving DecidableEq, Repr

/-- The eight joypad buttons (10_state.md R44). -/
inductive Button where
  | right | left | up | down | a | b | select | start
  deriving DecidableEq, Repr

/-- `pressed[b]` for the eight buttons (10_state.md R44). -/
structure Buttons where
  right : Bool
  left : Bool
  up : Bool
  down : Bool
  a : Bool
  b : Bool
  select : Bool
  start : Bool
  deriving DecidableEq, Repr

/-- The joypad register JOYP (10_state.md R44). A group is selected when its select bit is 0. -/
structure Joypad where
  /-- `sel_action`, bit 5. -/
  selAction : Bool
  /-- `sel_dir`, bit 4. -/
  selDir : Bool
  /-- The host-driven lines. -/
  pressed : Buttons
  deriving DecidableEq, Repr

/-- The registers the bus itself holds (10_state.md R49, R51, R54). -/
structure BusRegs where
  /-- SB. -/
  sb : Byte
  /-- SC. -/
  sc : Byte
  /-- DMA, the last byte written. -/
  dma : Byte
  /-- The boot-ROM-disable latch. -/
  bootOff : Bool
  deriving DecidableEq, Repr

/-- The PPU modes (10_state.md R55). -/
inductive PpuMode where
  | off | mode0 | mode1 | mode2 | mode3
  deriving DecidableEq, Repr

/-- A 2-bit value a palette yields, 0 being white (00_scope.md R14). -/
abbrev Shade := BitVec 2

/-- One row of the picture, 160 shades (50_ppu.md R335). -/
abbrev Row := Vector Shade 160

/-- The event RowReady(LY, row) (50_ppu.md R335). -/
structure RowReady where
  ly : Byte
  row : Row
  deriving DecidableEq, Repr

/-- The PPU (10_state.md R45 to R50, R55 to R59). VRAM and OAM stand in the byte storage. -/
structure Ppu where
  /-- LCDC (R45). -/
  lcdc : Byte
  /-- STAT bits 6:3: lyc_int, mode2_int, mode1_int, mode0_int (R46). -/
  statEnables : BitVec 4
  /-- STAT bit 2, the coincidence flag (R46). -/
  coincidence : Bool
  /-- STAT bits 1:0 (R46). -/
  statMode : BitVec 2
  /-- SCY (R47). -/
  scy : Byte
  /-- SCX (R47). -/
  scx : Byte
  /-- WY (R47). -/
  wy : Byte
  /-- WX (R47). -/
  wx : Byte
  /-- LY (R48). -/
  ly : Byte
  /-- LYC (R48). -/
  lyc : Byte
  /-- BGP (R50). -/
  bgp : Byte
  /-- OBP0 (R50). -/
  obp0 : Byte
  /-- OBP1 (R50). -/
  obp1 : Byte
  /-- `mode` (R55). -/
  mode : PpuMode
  /-- `dots` (R56). -/
  dots : Nat
  /-- `line_objs` (R57). -/
  lineObjs : List (Fin 40)
  /-- `frame`, 144 rows (R59). -/
  frame : Vector Row 144
  deriving DecidableEq, Repr

/-- One call of JoypadSet: a button and whether its line is now pressed (60_exceptions.md R378). -/
structure LineChange where
  button : Button
  pressed : Bool
  deriving DecidableEq, Repr

/-- The whole machine. -/
structure State where
  /-- The CPU. -/
  cpu : Cpu
  /-- The interrupt controller. -/
  irq : Irq
  /-- The timer. -/
  timer : Timer
  /-- The joypad register and lines. -/
  joypad : Joypad
  /-- SB, SC, DMA and the boot latch. -/
  bus : BusRegs
  /-- The PPU. -/
  ppu : Ppu
  /-- VRAM, external RAM, working RAM, OAM, the sound stub and high RAM, by bus address (10_state.md R52, R58, R60). -/
  mem : Memory
  /-- The contents of BOOT_ROM, by bus address 0x0000 to 0x00FF (R60). -/
  bootRom : Memory
  /-- The contents of CART_ROM, by bus address 0x0000 to 0x7FFF (R60). -/
  cartRom : Memory
  /-- The parameters of the run (R61). -/
  params : Params
  /-- The MODEL's own field: the joypad line changes the host makes after each of the coming machine cycles, nearest
  first (60_exceptions.md R378, log 4). -/
  hostQueue : List (List LineChange)
  /-- The MODEL's own field: the rows handed to the host and not yet taken, oldest first (50_ppu.md R335, log 5). -/
  rowsReady : List RowReady
  deriving DecidableEq, Repr

/-- Why the machine stopped. The machine's one exception is a state, not a stop of the model (log 11). -/
inductive Fault where
  /-- The diagnostic of the fatal state (60_exceptions.md R351). Read by the host through `State.diagnostic`
  (Safety.lean); no step raises it, since the rule makes the step of a fatal machine the identity. Safe. -/
  | undefinedOpcode (op : Byte) (pc : Word)
  deriving DecidableEq, Repr

/-- Why an input has no meaning. -/
inductive Refusal where
  /-- An instruction without a meaning yet, by its mnemonic. No arm of `exec` raises it. Safe. -/
  | notModelled (mnemonic : String)
  /-- A ROM image of the wrong size, raised by `State.construct` before a machine exists (00_scope.md R6). Safe. -/
  | malformedRom
  deriving DecidableEq, Repr

/-- What a step or an instruction answers. -/
abbrev Result := Host.Outcome State Fault Refusal

/-- All four flags clear. -/
def Flags.clear : Flags := { z := false, n := false, h := false, c := false }

/-- The CPU after reset (70_reset_and_hazards.md R401). `d8`, `d16` and `pf` have no reset value in the spec;
DESIGN CHOICE 0 (log 6). -/
def Cpu.reset : Cpu :=
  { a := 0x00, b := 0x00, c := 0x00, d := 0x00, e := 0x00, h := 0x00, l := 0x00
    f := Flags.clear, sp := 0x0000, pc := 0x0000
    ime := false, halted := false
    stage := 0, d8 := 0x00, d16 := 0x0000, pf := Flags.clear, ei := false, di := false
    ir := .opcode 0x00, fatal := none }

/-- The PPU after reset (70_reset_and_hazards.md R401). -/
def Ppu.reset : Ppu :=
  { lcdc := 0x00, statEnables := 0, coincidence := false, statMode := 0
    scy := 0x00, scx := 0x00, wy := 0x00, wx := 0x00, ly := 0x00, lyc := 0x00
    bgp := 0xE4, obp0 := 0xE4, obp1 := 0xE4
    mode := .off, dots := 0, lineObjs := []
    frame := Vector.replicate 144 (Vector.replicate 160 0) }

/-- The machine right after reset (70_reset_and_hazards.md R400, R401): every storage byte 0x00, so nothing is listed.
The ROM images are arguments of a run; here they list nothing (log 2, log 9). -/
def State.reset : State :=
  { cpu := Cpu.reset
    irq := { ie := 0, iflag := 0 }
    timer := { div := 0x0000, tima := 0x00, tma := 0x00, tac := 0 }
    joypad :=
      { selAction := false, selDir := false
        pressed :=
          { right := false, left := false, up := false, down := false
            a := false, b := false, select := false, start := false } }
    bus := { sb := 0x00, sc := 0x00, dma := 0x00, bootOff := false }
    ppu := Ppu.reset
    mem := []
    bootRom := []
    cartRom := []
    params := Params.default
    hostQueue := []
    rowsReady := [] }

end Sys2Proof.Machine
end

