-- ==== Sys2Proof/Machine/Operands.lean ====
section
/-! DEFINITION. Operand forms: registers by selector, pairs as views, the flag byte, conditions, computed addresses and
the signed displacement (00_scope.md R11, 10_state.md R20 to R23, 30_encoding.md R112 to R116). -/

namespace Sys2Proof.Machine

/-- The synthesized byte F: Z is bit 7, N bit 6, H bit 5, C bit 4, bits 3:0 always 0 (10_state.md R22). -/
def Flags.toByte (f : Flags) : Byte :=
  BitVec.ofBool f.z ++ BitVec.ofBool f.n ++ BitVec.ofBool f.h ++ BitVec.ofBool f.c ++ 0#4

/-- The flags a popped low byte gives; its bits 3:0 are discarded (10_state.md R22). -/
def Flags.ofByte (v : Byte) : Flags :=
  { z := v.getLsbD 7, n := v.getLsbD 6, h := v.getLsbD 5, c := v.getLsbD 4 }

/-- `r8[i]`, a read of a byte register by selector (00_scope.md R11). -/
def Cpu.r8 (c : Cpu) : Reg8 → Byte
  | .b => c.b
  | .c => c.c
  | .d => c.d
  | .e => c.e
  | .h => c.h
  | .l => c.l
  | .a => c.a

/-- `r8[i] <- v` (00_scope.md R11). -/
def Cpu.setR8 (c : Cpu) (r : Reg8) (v : Byte) : Cpu :=
  match r with
  | .b => { c with b := v }
  | .c => { c with c := v }
  | .d => { c with d := v }
  | .e => { c with e := v }
  | .h => { c with h := v }
  | .l => { c with l := v }
  | .a => { c with a := v }

/-- `r16[i]`: BC, DE, HL are views of two byte registers, SP is its own (10_state.md R22). -/
def Cpu.r16 (c : Cpu) : Reg16 → Word
  | .bc => joinBytes c.b c.c
  | .de => joinBytes c.d c.e
  | .hl => joinBytes c.h c.l
  | .sp => c.sp

/-- `r16[i] <- v`: writing a pair writes both halves (10_state.md R22). -/
def Cpu.setR16 (c : Cpu) (r : Reg16) (v : Word) : Cpu :=
  match r with
  | .bc => { c with b := hiByte v, c := loByte v }
  | .de => { c with d := hiByte v, e := loByte v }
  | .hl => { c with h := hiByte v, l := loByte v }
  | .sp => { c with sp := v }

/-- `r16s[i]`: the stack group, AF is A ++ F (10_state.md R22). -/
def Cpu.r16s (c : Cpu) : Reg16s → Word
  | .bc => joinBytes c.b c.c
  | .de => joinBytes c.d c.e
  | .hl => joinBytes c.h c.l
  | .af => joinBytes c.a c.f.toByte

/-- `r16s[i] <- v`; for AF the flags come from bits 7:4 of the low byte (41_load16_stack.md R174). -/
def Cpu.setR16s (c : Cpu) (r : Reg16s) (v : Word) : Cpu :=
  match r with
  | .bc => { c with b := hiByte v, c := loByte v }
  | .de => { c with d := hiByte v, e := loByte v }
  | .hl => { c with h := hiByte v, l := loByte v }
  | .af => { c with a := hiByte v, f := Flags.ofByte (loByte v) }

/-- `cond(cc)` (00_scope.md R11). -/
def condHolds (cc : Cond) (f : Flags) : Bool :=
  match cc with
  | .nz => !f.z
  | .z => f.z
  | .nc => !f.c
  | .c => f.c

/-- A read of a byte register of the machine. -/
def State.r8 (s : State) (r : Reg8) : Byte := s.cpu.r8 r

/-- A write of a byte register of the machine. -/
def State.setR8 (s : State) (r : Reg8) (v : Byte) : State := { s with cpu := s.cpu.setR8 r v }

/-- A read of a pair or SP. -/
def State.r16 (s : State) (r : Reg16) : Word := s.cpu.r16 r

/-- A write of a pair or SP. -/
def State.setR16 (s : State) (r : Reg16) (v : Word) : State := { s with cpu := s.cpu.setR16 r v }

/-- A read of a pair of the stack group. -/
def State.r16s (s : State) (r : Reg16s) : Word := s.cpu.r16s r

/-- A write of a pair of the stack group. -/
def State.setR16s (s : State) (r : Reg16s) (v : Word) : State := { s with cpu := s.cpu.setR16s r v }

/-- A write of all four flags. -/
def State.setFlags (s : State) (f : Flags) : State := { s with cpu := { s.cpu with f := f } }

/-- A write of SP. -/
def State.setSp (s : State) (v : Word) : State := { s with cpu := { s.cpu with sp := v } }

/-- The address in HL. -/
def State.hl (s : State) : Word := s.cpu.r16 .hl

/-- `0xFF00 + zext_16(n)`, the address in the last page (30_encoding.md R113). -/
def lastPage (n : Byte) : Word := 0xFF00 + zext16 n

/-- `sext_16(e)` of a signed displacement (30_encoding.md R115). -/
def displacementWord (e : Int) : Word := BitVec.ofInt 16 e

/-- The target of RST with field `y`: `zext_16(8 * y)` (30_encoding.md R116). -/
def rstTarget (y : Fin 8) : Word := BitVec.ofNat 16 (8 * y.val)

end Sys2Proof.Machine
end

