-- ==== Sys2Proof/Machine/Flags.lean ====
section
/-! DEFINITION. What the arithmetic, logic, rotate, shift and bit instructions compute: a result and the four flags, on
integers and narrowed at the end (42_alu8.md R185, 43_alu16.md R224, 44_rotate_shift_bit.md). -/

namespace Sys2Proof.Machine

/-- A carry as a number (00_scope.md R10). -/
def carryIn (c : Bool) : Nat := if c then 1 else 0

/-- `a + b + c` modulo 256. -/
def addByte (a b : Byte) (c : Bool) : Byte := BitVec.ofNat 8 (a.toNat + b.toNat + carryIn c)

/-- The addition law (42_alu8.md R185). -/
def addFlags (a b : Byte) (c : Bool) : Flags :=
  let r := a.toNat + b.toNat + carryIn c
  { z := r % 256 == 0
    n := false
    h := decide (a.toNat % 16 + b.toNat % 16 + carryIn c > 0xF)
    c := decide (r > 0xFF) }

/-- `a - b - c` modulo 256. -/
def subByte (a b : Byte) (c : Bool) : Byte := BitVec.ofInt 8 ((a.toNat : Int) - b.toNat - carryIn c)

/-- The subtraction law (42_alu8.md R185). -/
def subFlags (a b : Byte) (c : Bool) : Flags :=
  let r : Int := (a.toNat : Int) - b.toNat - carryIn c
  { z := r % 256 == 0
    n := true
    h := decide ((a.toNat % 16 : Int) - (b.toNat % 16 : Int) - carryIn c < 0)
    c := decide (r < 0) }

/-- The flags of a logical result: Z from the result, N and C clear, H as given (42_alu8.md R191 to R193). -/
def logicFlags (r : Byte) (h : Bool) : Flags := { z := r == 0, n := false, h := h, c := false }

/-- The new A of an accumulator operation (42_alu8.md R187 to R194); CP leaves A. -/
def aluResult (op : AluOp) (a v : Byte) (c : Bool) : Byte :=
  match op with
  | .add => addByte a v false
  | .adc => addByte a v c
  | .sub => subByte a v false
  | .sbc => subByte a v c
  | .and => a &&& v
  | .xor => a ^^^ v
  | .or => a ||| v
  | .cp => a

/-- The flags of an accumulator operation (42_alu8.md R187 to R194). -/
def aluFlags (op : AluOp) (a v : Byte) (c : Bool) : Flags :=
  match op with
  | .add => addFlags a v false
  | .adc => addFlags a v c
  | .sub => subFlags a v false
  | .sbc => subFlags a v c
  | .and => logicFlags (a &&& v) true
  | .xor => logicFlags (a ^^^ v) false
  | .or => logicFlags (a ||| v) false
  | .cp => subFlags a v false

/-- The flags of INC on a byte; C is not written (42_alu8.md R195). -/
def incFlags (v : Byte) (f : Flags) : Flags :=
  { f with z := v == 0xFF, n := false, h := v.toNat % 16 == 0xF }

/-- The flags of DEC on a byte; C is not written (42_alu8.md R197). -/
def decFlags (v : Byte) (f : Flags) : Flags :=
  { f with z := v == 0x01, n := true, h := v.toNat % 16 == 0x0 }

/-- What DAA adds to A after an addition, or subtracts from it after a subtraction (42_alu8.md R199). Both tests of the
addition branch use A before any adjustment. -/
def daaAdjust (a : Byte) (f : Flags) : Nat :=
  if f.n then
    (if f.h then 0x06 else 0) + (if f.c then 0x60 else 0)
  else
    (if f.h || decide (a.toNat % 16 > 9) then 0x06 else 0) + (if f.c || decide (a.toNat > 0x99) then 0x60 else 0)

/-- The new A of DAA (42_alu8.md R199). -/
def daaResult (a : Byte) (f : Flags) : Byte :=
  if f.n then BitVec.ofInt 8 ((a.toNat : Int) - daaAdjust a f) else BitVec.ofNat 8 (a.toNat + daaAdjust a f)

/-- The flags of DAA: Z from the result, N kept, H clear, C set by an addition's high adjustment and never cleared
(42_alu8.md R199). -/
def daaFlags (a : Byte) (f : Flags) : Flags :=
  { z := daaResult a f == 0
    n := f.n
    h := false
    c := f.c || (!f.n && decide (a.toNat > 0x99)) }

/-- The flags of ADD HL,rr: H from bit 11, C from bit 15, Z kept (43_alu16.md R220). -/
def addHlFlags (hl v : Word) (f : Flags) : Flags :=
  { f with
    n := false
    h := decide (hl.toNat % 4096 + v.toNat % 4096 > 0xFFF)
    c := decide (hl.toNat + v.toNat > 0xFFFF) }

/-- The flags of ADD SP,e and LD HL,SP+e: from the low-byte sum with the displacement as an unsigned byte
(43_alu16.md R223, 41_load16_stack.md R175). -/
def addSpFlags (sp : Word) (e : Int) : Flags :=
  { z := false
    n := false
    h := decide (sp.toNat % 16 + (displacementByte e).toNat % 16 > 0xF)
    c := decide (sp.toNat % 256 + (displacementByte e).toNat > 0xFF) }

/-- The result of a prefixed rotate or shift; `c` is the carry flag before (44_rotate_shift_bit.md R237 to R244). -/
def shiftResult (op : ShiftOp) (v : Byte) (c : Bool) : Byte :=
  match op with
  | .rlc => v.extractLsb' 0 7 ++ v.extractLsb' 7 1
  | .rrc => v.extractLsb' 0 1 ++ v.extractLsb' 1 7
  | .rl => v.extractLsb' 0 7 ++ BitVec.ofBool c
  | .rr => BitVec.ofBool c ++ v.extractLsb' 1 7
  | .sla => v.extractLsb' 0 7 ++ 0#1
  | .sra => v.extractLsb' 7 1 ++ v.extractLsb' 1 7
  | .swap => v.extractLsb' 0 4 ++ v.extractLsb' 4 4
  | .srl => 0#1 ++ v.extractLsb' 1 7

/-- The bit a rotate or shift moves into C; SWAP clears C (44_rotate_shift_bit.md R237 to R244). -/
def shiftCarry (op : ShiftOp) (v : Byte) : Bool :=
  match op with
  | .rlc => v.getLsbD 7
  | .rrc => v.getLsbD 0
  | .rl => v.getLsbD 7
  | .rr => v.getLsbD 0
  | .sla => v.getLsbD 7
  | .sra => v.getLsbD 0
  | .swap => false
  | .srl => v.getLsbD 0

/-- The flags of a prefixed rotate or shift: Z from the result (44_rotate_shift_bit.md R237 to R244). -/
def shiftFlags (op : ShiftOp) (v : Byte) (c : Bool) : Flags :=
  { z := shiftResult op v c == 0, n := false, h := false, c := shiftCarry op v }

/-- The flags of an accumulator rotate: Z is always clear (44_rotate_shift_bit.md R234). -/
def accRotateFlags (op : ShiftOp) (v : Byte) : Flags :=
  { z := false, n := false, h := false, c := shiftCarry op v }

/-- The flags of BIT b,v; C is not written (44_rotate_shift_bit.md R245). -/
def bitFlags (b : Fin 8) (v : Byte) (f : Flags) : Flags :=
  { f with z := !v.getLsbD b.val, n := false, h := true }

/-- `v & ~(1 << b)` (44_rotate_shift_bit.md R246). -/
def resResult (b : Fin 8) (v : Byte) : Byte := v &&& ~~~(1#8 <<< b.val)

/-- `v | (1 << b)` (44_rotate_shift_bit.md R247). -/
def setResult (b : Fin 8) (v : Byte) : Byte := v ||| (1#8 <<< b.val)

end Sys2Proof.Machine
end

