-- ==== Sys2Proof/Machine/Ops.lean ====
section
/-! DEFINITION. The shared operations: byte storage, the address map and the two bus functions with their side effects
(20_memory.md), interrupt requests, the machine cycles instructions are made of, the one exception, the interrupt
dispatch and the return (60_exceptions.md R350 to R361). -/

namespace Sys2Proof.Machine

/-! ### Byte storage -/

/-- The byte at an address; an unlisted address reads as `unlistedByte`. -/
def Memory.read : Memory → Nat → Byte
  | [], _ => unlistedByte
  | (k, w) :: m, a => if k = a then w else Memory.read m a

/-- Every entry of an address removed. -/
def Memory.erase (m : Memory) (a : Nat) : Memory := m.filter fun cell => cell.1 ≠ a

/-- An entry put before the first entry of a higher address. -/
def Memory.insert : Memory → Nat → Byte → Memory
  | [], a, v => [(a, v)]
  | (k, w) :: m, a, v => if a < k then (a, v) :: (k, w) :: m else (k, w) :: Memory.insert m a v

/-- A byte stored at an address, keeping the canonical form: storing `unlistedByte` removes the entry. -/
def Memory.write (m : Memory) (a : Nat) (v : Byte) : Memory :=
  if v = unlistedByte then m.erase a else (m.erase a).insert a v

/-- Bytes stored at consecutive addresses. -/
def Memory.writeAll (m : Memory) (a : Nat) : List Byte → Memory
  | [] => m
  | v :: vs => (m.write a v).writeAll (a + 1) vs

/-- The canonical form: addresses strictly rising, no entry equal to what an unlisted address reads as. -/
def Memory.wf : Memory → Bool
  | [] => true
  | (k, w) :: m => decide (w ≠ unlistedByte) && m.all (fun cell => decide (k < cell.1)) && Memory.wf m

/-! ### The address map -/

/-- The I/O registers (10_state.md R43). -/
inductive IoReg where
  | joyp | sb | sc | div | tima | tma | tac | iflag | sound
  | lcdc | stat | scy | scx | ly | lyc | dma | bgp | obp0 | obp1 | wy | wx | boot
  /-- An address the table marks "none" (R53). -/
  | none
  deriving DecidableEq, Repr

/-- What an address names (20_memory.md R71). -/
inductive Region where
  /-- 0x0000 to 0x7FFF. -/
  | rom
  /-- 0x8000 to 0x9FFF. -/
  | vram
  /-- External RAM, working RAM and its echo, high RAM: plain storage at a storage address. -/
  | ram (key : Nat)
  /-- 0xFE00 to 0xFE9F. -/
  | oam
  /-- 0xFEA0 to 0xFEFF. -/
  | unmapped
  /-- 0xFF00 to 0xFF7F. -/
  | io (r : IoReg)
  /-- 0xFFFF. -/
  | ie
  deriving DecidableEq, Repr

/-- The I/O registers of one address each (10_state.md R43). -/
def ioTable : List (Nat × IoReg) :=
  [(0xFF00, .joyp), (0xFF01, .sb), (0xFF02, .sc), (0xFF04, .div), (0xFF05, .tima), (0xFF06, .tma),
   (0xFF07, .tac), (0xFF0F, .iflag), (0xFF40, .lcdc), (0xFF41, .stat), (0xFF42, .scy), (0xFF43, .scx),
   (0xFF44, .ly), (0xFF45, .lyc), (0xFF46, .dma), (0xFF47, .bgp), (0xFF48, .obp0), (0xFF49, .obp1),
   (0xFF4A, .wy), (0xFF4B, .wx), (0xFF50, .boot)]

/-- The register at an I/O address (10_state.md R43): the sound stub 0xFF10 to 0xFF3F, a register of the table, or none. -/
def ioRegOf (a : Nat) : IoReg :=
  if 0xFF10 ≤ a ∧ a ≤ 0xFF3F then .sound
  else
    match ioTable.find? fun row => row.1 == a with
    | some row => row.2
    | none => .none

/-- The region of an address (20_memory.md R71). The echo at 0xE000 to 0xFDFF is the working RAM 0x2000 below (R83). -/
def regionOf (addr : Word) : Region :=
  let a := addr.toNat
  if a ≤ 0x7FFF then .rom
  else if a ≤ 0x9FFF then .vram
  else if a ≤ 0xDFFF then .ram a
  else if a ≤ 0xFDFF then .ram (a - 0x2000)
  else if a ≤ 0xFE9F then .oam
  else if a ≤ 0xFEFF then .unmapped
  else if a ≤ 0xFF7F then .io (ioRegOf a)
  else if a ≤ 0xFFFE then .ram a
  else .ie

/-- The VRAM gate is closed (20_memory.md R78). -/
def State.vramClosed (s : State) : Bool := s.ppu.mode == .mode3

/-- The OAM gate is closed (20_memory.md R80). -/
def State.oamClosed (s : State) : Bool := s.ppu.mode == .mode2 || s.ppu.mode == .mode3

/-! ### I/O registers -/

/-- A Boolean as one bit. -/
def bit (b : Bool) : BitVec 1 := BitVec.ofBool b

/-- The direction lines as a nibble, pressed is 1: Down, Up, Left, Right (10_state.md R44). -/
def Buttons.directionBits (p : Buttons) : BitVec 4 := bit p.down ++ bit p.up ++ bit p.left ++ bit p.right

/-- The action lines as a nibble, pressed is 1: Start, Select, B, A (10_state.md R44). -/
def Buttons.actionBits (p : Buttons) : BitVec 4 := bit p.start ++ bit p.select ++ bit p.b ++ bit p.a

/-- What JOYP reads (10_state.md R44): a pressed button of a selected group reads as 0 in its line bit. -/
def Joypad.read (j : Joypad) : Byte :=
  let dir : BitVec 4 := if j.selDir then 0 else j.pressed.directionBits
  let act : BitVec 4 := if j.selAction then 0 else j.pressed.actionBits
  0#2 ++ bit j.selAction ++ bit j.selDir ++ (0xF#4 &&& ~~~dir &&& ~~~act)

/-- What STAT reads (10_state.md R46). -/
def Ppu.statByte (p : Ppu) : Byte := 0#1 ++ p.statEnables ++ bit p.coincidence ++ p.statMode

/-- `IoRead(a)`: the read column of 10_state.md R43. -/
def ioRead (s : State) (r : IoReg) (a : Nat) : Byte :=
  match r with
  | .joyp => s.joypad.read
  | .sb => s.bus.sb
  | .sc => s.bus.sc
  | .div => hiByte s.timer.div
  | .tima => s.timer.tima
  | .tma => s.timer.tma
  | .tac => s.timer.tac.setWidth 8
  | .iflag => s.irq.iflag.setWidth 8
  | .sound => s.mem.read a
  | .lcdc => s.ppu.lcdc
  | .stat => s.ppu.statByte
  | .scy => s.ppu.scy
  | .scx => s.ppu.scx
  | .ly => s.ppu.ly
  | .lyc => s.ppu.lyc
  | .dma => s.bus.dma
  | .bgp => s.ppu.bgp
  | .obp0 => s.ppu.obp0
  | .obp1 => s.ppu.obp1
  | .wy => s.ppu.wy
  | .wx => s.ppu.wx
  | .boot => (bit s.bus.bootOff).setWidth 8
  | .none => 0x00

/-- `MemRead(a, 1)` (20_memory.md R72). -/
def memRead (s : State) (a : Word) : Byte :=
  match regionOf a with
  | .rom => if a.toNat ≤ 0x00FF ∧ s.bus.bootOff = false then s.bootRom.read a.toNat else s.cartRom.read a.toNat
  | .vram => if s.vramClosed then 0xFF else s.mem.read a.toNat
  | .ram key => s.mem.read key
  | .oam => if s.oamClosed then 0xFF else s.mem.read a.toNat
  | .unmapped => 0x00
  | .io r => ioRead s r a.toNat
  | .ie => s.irq.ie.setWidth 8

/-- The 160 bytes an OAM DMA reads, by ordinary reads (20_memory.md R86). -/
def dmaSource (s : State) (v : Byte) : List Byte :=
  (List.range 160).map fun i => memRead s (joinBytes v 0x00 + BitVec.ofNat 16 i)

/-- A write of the DMA register: the byte is stored, and a value at most 0xDF copies 160 bytes into OAM, past the OAM gate
(20_memory.md R86). -/
def dmaWrite (s : State) (v : Byte) : State :=
  let s' := { s with bus := { s.bus with dma := v } }
  if v.toNat ≤ 0xDF then { s' with mem := s'.mem.writeAll 0xFE00 (dmaSource s' v) } else s'

/-- `IoWrite(a, v)`: the write column of 10_state.md R43. -/
def ioWrite (s : State) (r : IoReg) (a : Nat) (v : Byte) : State :=
  match r with
  | .joyp => { s with joypad := { s.joypad with selAction := v.getLsbD 5, selDir := v.getLsbD 4 } }
  | .sb => { s with bus := { s.bus with sb := v } }
  | .sc => { s with bus := { s.bus with sc := v } }
  | .div => { s with timer := { s.timer with div := 0x0000 } }
  | .tima => { s with timer := { s.timer with tima := v } }
  | .tma => { s with timer := { s.timer with tma := v } }
  | .tac => { s with timer := { s.timer with tac := v.setWidth 3 } }
  | .iflag => { s with irq := { s.irq with iflag := v.setWidth 5 } }
  | .sound => { s with mem := s.mem.write a v }
  | .lcdc => { s with ppu := { s.ppu with lcdc := v } }
  | .stat => { s with ppu := { s.ppu with statEnables := v.extractLsb' 3 4 } }
  | .scy => { s with ppu := { s.ppu with scy := v } }
  | .scx => { s with ppu := { s.ppu with scx := v } }
  | .ly => s
  | .lyc => { s with ppu := { s.ppu with lyc := v } }
  | .dma => dmaWrite s v
  | .bgp => { s with ppu := { s.ppu with bgp := v } }
  | .obp0 => { s with ppu := { s.ppu with obp0 := v } }
  | .obp1 => { s with ppu := { s.ppu with obp1 := v } }
  | .wy => { s with ppu := { s.ppu with wy := v } }
  | .wx => { s with ppu := { s.ppu with wx := v } }
  | .boot => if v ≠ 0 then { s with bus := { s.bus with bootOff := true } } else s
  | .none => s

/-- `MemWrite(a, 1, v)` (20_memory.md R73). -/
def memWrite (s : State) (a : Word) (v : Byte) : State :=
  match regionOf a with
  | .rom => s
  | .vram => if s.vramClosed then s else { s with mem := s.mem.write a.toNat v }
  | .ram key => { s with mem := s.mem.write key v }
  | .oam => if s.oamClosed then s else { s with mem := s.mem.write a.toNat v }
  | .unmapped => s
  | .io r => ioWrite s r a.toNat v
  | .ie => { s with irq := { s.irq with ie := v.setWidth 5 } }

/-! ### Interrupt requests -/

/-- The bit number of a source in IE and IF, and its priority rank (60_exceptions.md R352). -/
def Source.index : Source → Nat
  | .vblank => 0
  | .lcdStat => 1
  | .timer => 2
  | .serial => 3
  | .joypad => 4

/-- The bit of a source. -/
def Source.bit (k : Source) : BitVec 5 := 1#5 <<< k.index

/-- The vector of a source, `0x0040 + 8 * k` (60_exceptions.md R352, R358). -/
def Source.vector (k : Source) : Word := BitVec.ofNat 16 (0x0040 + 8 * k.index)

/-- `request(src)`: IF[index] <- 1 (60_exceptions.md R354). -/
def State.request (s : State) (k : Source) : State :=
  { s with irq := { s.irq with iflag := s.irq.iflag ||| k.bit } }

/-- `request(src)` if a condition holds. -/
def State.requestIf (s : State) (c : Bool) (k : Source) : State := if c then s.request k else s

/-- `IE & IF & 0x1F` (60_exceptions.md R357). -/
def State.pending (s : State) : BitVec 5 := s.irq.ie &&& s.irq.iflag

/-- The source of the lowest set bit (60_exceptions.md R357, R359). -/
def lowestSource (p : BitVec 5) : Option Source :=
  if p.getLsbD 0 then some .vblank
  else if p.getLsbD 1 then some .lcdStat
  else if p.getLsbD 2 then some .timer
  else if p.getLsbD 3 then some .serial
  else if p.getLsbD 4 then some .joypad
  else none

/-! ### Machine cycles -/

/-- How one machine cycle of the CPU ends: the instruction goes on, or it has retired. -/
inductive Phase where
  | more (s : State)
  | done (s : State)

/-- The CPU's part of one machine cycle of an instruction or a dispatch (00_scope.md R12). -/
abbrev Cycle := State → Phase

/-- A cycle without a bus access and without an effect. -/
def idle : Cycle := fun s => .more s

/-- A cycle that does something and goes on. -/
def going (f : State → State) : Cycle := fun s => .more (f s)

/-- The terminal cycle. -/
def last (f : State → State) : Cycle := fun s => .done (f s)

/-- The terminal stage writes PC and leaves a fresh pass-through (10_state.md R26, R31). `d8`, `d16` and `pf` of a fresh
pass-through have no meaning; the model clears them (log 6). -/
def State.retire (s : State) (pc : Word) : State :=
  { s with
    cpu := { s.cpu with
      pc := pc, stage := 0, d8 := 0x00, d16 := 0x0000, pf := Flags.clear, ei := false, di := false } }

/-- Retire with PC advanced by the instruction's length. -/
def State.advance (s : State) (length : Word) : State := s.retire (s.cpu.pc + length)

/-- The pending one-byte datum of the pass-through written. -/
def State.setD8 (s : State) (v : Byte) : State := { s with cpu := { s.cpu with d8 := v } }

/-- The pending two-byte datum of the pass-through written. -/
def State.setD16 (s : State) (v : Word) : State := { s with cpu := { s.cpu with d16 := v } }

/-- The pending flags of the pass-through written. -/
def State.setPf (s : State) (f : Flags) : State := { s with cpu := { s.cpu with pf := f } }

/-! ### The stack -/

/-- `SP <- SP - 1; MemWrite(SP, 1, v)` (41_load16_stack.md R176). -/
def pushByte (s : State) (v : Byte) : State := memWrite (s.setSp (s.cpu.sp - 1)) (s.cpu.sp - 1) v

/-- The pop of a low byte into `d8`: `lo <- MemRead(SP, 1); SP <- SP + 1` (41_load16_stack.md R176). -/
def popLow (s : State) : State := (s.setD8 (memRead s s.cpu.sp)).setSp (s.cpu.sp + 1)

/-- The pop of a high byte after `popLow`, the word into `d16` (41_load16_stack.md R176). -/
def popHigh (s : State) : State := (s.setD16 (joinBytes (memRead s s.cpu.sp) s.cpu.d8)).setSp (s.cpu.sp + 1)

/-- The two cycles that push a word, high byte first, and jump to a target (45_control.md R266, 60_exceptions.md R358). -/
def pushThenJump (v target : State → Word) (after : State → State) : List Cycle :=
  [going fun s => pushByte s (hiByte (v s)),
   last fun s => after ((pushByte s (loByte (v s))).retire (target s))]

/-! ### The exception, the interrupt dispatch and the return -/

/-- `raise UndefinedOpcode(op, pc)` (60_exceptions.md R351): `fatal <- (op, pc)`; PC keeps the address of the opcode byte
and nothing else changes. -/
def raiseUndefined (op : Byte) (s : State) : State := { s with cpu := { s.cpu with fatal := some (op, s.cpu.pc) } }

/-- M1 of a dispatch: `IME <- 0; IF[k] <- 0; ei <- 0` (60_exceptions.md R358). -/
def acceptInterrupt (k : Source) (s : State) : State :=
  { s with
    cpu := { s.cpu with ime := false, ei := false }
    irq := { s.irq with iflag := s.irq.iflag &&& ~~~k.bit } }

/-- The five machine cycles of the dispatch of a source (60_exceptions.md R358). -/
def dispatchCycles (k : Source) : List Cycle :=
  [going (acceptInterrupt k),
   idle,
   going fun s => pushByte s (hiByte s.cpu.pc),
   going fun s => pushByte s (loByte s.cpu.pc),
   last fun s => s.retire k.vector]

/-- The three cycles of a return after its first: pop low, pop high, write PC (45_control.md R270). -/
def returnCycles (after : State → State) : List Cycle :=
  [going popLow,
   going popHigh,
   last fun s => after (s.retire s.cpu.d16)]

end Sys2Proof.Machine
end

