-- ==== Sys2Proof/Machine/Construct.lean ====
section
/-! DEFINITION. The construction of a machine from its parameters (00_scope.md R6, 70_reset_and_hazards.md R400). -/

namespace Sys2Proof.Machine

/-- The machine of a run: reset state, ROM images and parameters. An image of the wrong size is refused before the machine
exists. -/
def State.construct (boot cart : List Byte) (params : Params) : Except Refusal State :=
  if romImagesFit boot cart then
    .ok
      { State.reset with
        bootRom := Memory.writeAll [] 0x0000 boot
        cartRom := Memory.writeAll [] 0x0000 cart
        params := params }
  else .error .malformedRom

end Sys2Proof.Machine
end

