-- ==== Sys2Proof/Machine/Joypad.lean ====
section
/-! DEFINITION. The host's side of the machine: joypad line changes between two machine cycles and the rows handed out
(60_exceptions.md R378, R379). -/

namespace Sys2Proof.Machine

/-- `pressed[b]`. -/
def Buttons.get (p : Buttons) : Button → Bool
  | .right => p.right
  | .left => p.left
  | .up => p.up
  | .down => p.down
  | .a => p.a
  | .b => p.b
  | .select => p.select
  | .start => p.start

/-- `pressed[b] <- v`. -/
def Buttons.set (p : Buttons) (button : Button) (v : Bool) : Buttons :=
  match button with
  | .right => { p with right := v }
  | .left => { p with left := v }
  | .up => { p with up := v }
  | .down => { p with down := v }
  | .a => { p with a := v }
  | .b => { p with b := v }
  | .select => { p with select := v }
  | .start => { p with start := v }

/-- The group of a button is selected: its select bit is 0 (10_state.md R44, 60_exceptions.md R378). -/
def Joypad.selects (j : Joypad) : Button → Bool
  | .right => !j.selDir
  | .left => !j.selDir
  | .up => !j.selDir
  | .down => !j.selDir
  | .a => !j.selAction
  | .b => !j.selAction
  | .select => !j.selAction
  | .start => !j.selAction

/-- `JoypadSet(b, new)` (60_exceptions.md R378): a release of a button whose group is selected requests the joypad
interrupt; a fatal machine takes no change. -/
def joypadSet (s : State) (change : LineChange) : State :=
  if s.cpu.fatal.isSome then s
  else
    let old := s.joypad.pressed.get change.button
    { s with joypad := { s.joypad with pressed := s.joypad.pressed.set change.button change.pressed } }.requestIf
      (old && !change.pressed && s.joypad.selects change.button) .joypad

/-- The host's turn between two machine cycles: the changes it makes there, in its order (log 4). -/
def hostTurn (s : State) : State :=
  match s.hostQueue with
  | [] => s
  | changes :: rest => changes.foldl joypadSet { s with hostQueue := rest }

/-- The host takes the rows handed out so far (50_ppu.md R335, log 5). -/
def hostTakeRows (s : State) : List RowReady × State := (s.rowsReady, { s with rowsReady := [] })

end Sys2Proof.Machine
end

