-- ==== Sys2Proof/Machine/Ppu.lean ====
section
/-! DEFINITION. The PPU: mode state machine, object search and pixel compositor (50_ppu.md). Its own reads of VRAM and OAM
are direct and never gated (20_memory.md R77, R79). -/

namespace Sys2Proof.Machine

/-! ### LCDC fields (10_state.md R45) -/

/-- `lcd_en`, bit 7. -/
def Ppu.lcdEn (p : Ppu) : Bool := p.lcdc.getLsbD 7
/-- `win_map`, bit 6. -/
def Ppu.winMap (p : Ppu) : Bool := p.lcdc.getLsbD 6
/-- `win_en`, bit 5. -/
def Ppu.winEn (p : Ppu) : Bool := p.lcdc.getLsbD 5
/-- `tile_data`, bit 4. -/
def Ppu.tileData (p : Ppu) : Bool := p.lcdc.getLsbD 4
/-- `bg_map`, bit 3. -/
def Ppu.bgMap (p : Ppu) : Bool := p.lcdc.getLsbD 3
/-- `obj_size`, bit 2. -/
def Ppu.objSize (p : Ppu) : Bool := p.lcdc.getLsbD 2

/-- The height of a sprite, 8 or 16 (50_ppu.md R314). -/
def Ppu.objHeight (p : Ppu) : Nat := if p.objSize then 16 else 8

/-! ### Direct reads -/

/-- The VRAM byte at bus address `a` (50_ppu.md R325). -/
def vramByte (s : State) (a : Nat) : Byte := s.mem.read a

/-- `OAM[k]`. -/
def oamByte (s : State) (k : Nat) : Byte := s.mem.read (0xFE00 + k)

/-! ### Object search (50_ppu.md R314, R315) -/

/-- The vertical span of an OAM entry overlaps the current scanline. -/
def spriteOnLine (s : State) (i : Fin 40) : Bool :=
  let y := (oamByte s (4 * i.val)).toNat
  let line := s.ppu.ly.toNat + 16
  decide (y ≤ line) && decide (line < y + s.ppu.objHeight)

/-- The x coordinate of an OAM entry. -/
def spriteX (s : State) (i : Fin 40) : Nat := (oamByte s (4 * i.val + 1)).toNat

/-- A stable insertion: before the first entry of a greater x. -/
def insertByX (s : State) (i : Fin 40) : List (Fin 40) → List (Fin 40)
  | [] => [i]
  | j :: js => if spriteX s i < spriteX s j then i :: j :: js else j :: insertByX s i js

/-- A stable sort by ascending x: the entries inserted one by one, in list order. -/
def sortByX (s : State) (is : List (Fin 40)) : List (Fin 40) :=
  is.foldl (fun sorted i => insertByX s i sorted) []

/-- `ObjectSearch()`: the first ten entries on the line in OAM order, sorted by ascending x, reversed. -/
def objectSearch (s : State) : List (Fin 40) :=
  (sortByX s (((List.finRange 40).filter (spriteOnLine s)).take 10)).reverse

/-! ### Background and window (50_ppu.md R321 to R328) -/

/-- Color number of a tile-row pixel from bit `b` of the two bit planes: `hi[b] ++ lo[b]` (50_ppu.md R326). -/
def colorNumber (lo hi : Byte) (b : Nat) : BitVec 2 := bit (hi.getLsbD b) ++ bit (lo.getLsbD b)

/-- The shade of a color number: bits `2c+1 : 2c` of a palette (10_state.md R50). -/
def paletteShade (palette : Byte) (c : BitVec 2) : Shade := palette.extractLsb' (2 * c.toNat) 2

/-- The base of a tile map (10_state.md R45). -/
def tileMapBase (high : Bool) : Nat := if high then 0x9C00 else 0x9800

/-- The address of a background or window tile (50_ppu.md R325). -/
def tileAddress (p : Ppu) (index : Byte) : Nat :=
  if p.tileData then 0x8000 + 16 * index.toNat else (0x9000 + 16 * index.toInt).toNat

/-- The color number at pixel `(x, y)` of a tile map (50_ppu.md R325, R326). -/
def mapColor (s : State) (base x y : Nat) : BitVec 2 :=
  let tile := tileAddress s.ppu (vramByte s (base + 32 * (y / 8) + x / 8))
  colorNumber (vramByte s (tile + 2 * (y % 8))) (vramByte s (tile + 2 * (y % 8) + 1)) (7 - x % 8)

/-- The window test at column `q` of the untrimmed row (50_ppu.md R322); `q >= WX - 7` over the integers. -/
def windowAt (p : Ppu) (q : Nat) : Bool :=
  p.winEn && decide (p.wy.toNat ≤ p.ly.toNat) && decide (p.wx.toNat ≤ q + 7)

/-- `BgWinShade(q)` (50_ppu.md R320, R323, R324, R327). -/
def bgWinShade (s : State) (q : Nat) : Shade :=
  let p := s.ppu
  paletteShade p.bgp <|
    if windowAt p q then
      mapColor s (tileMapBase p.winMap) (q + 7 - p.wx.toNat) (p.ly.toNat - p.wy.toNat)
    else
      mapColor s (tileMapBase p.bgMap) ((8 * (p.scx.toNat / 8) + q) % 256) ((p.scy.toNat + p.ly.toNat) % 256)

/-- The background and window row, trimmed by `SCX mod 8` and truncated to 160 pixels (50_ppu.md R320, R328). Column
`x + SCX mod 8` is at most 166, inside the 168 columns of R321. -/
def backgroundRow (s : State) : Row := Vector.ofFn fun x : Fin 160 => bgWinShade s (x.val + s.ppu.scx.toNat % 8)

/-! ### Sprites (50_ppu.md R329 to R334) -/

/-- The VRAM byte at offset `o` reduced modulo 8192 (50_ppu.md R330). -/
def spriteTileByte (s : State) (o : Int) : Byte := vramByte s (0x8000 + (o % 8192).toNat)

/-- The offset in VRAM of the sprite's tile row (50_ppu.md R330); division rounds toward minus infinity. -/
def spriteRowOffset (s : State) (i : Fin 40) : Int :=
  let y := (oamByte s (4 * i.val)).toNat
  let t := oamByte s (4 * i.val + 2)
  let attr := oamByte s (4 * i.val + 3)
  let h : Int := s.ppu.objHeight
  let line : Int := (s.ppu.ly.toNat : Int) + 16 - y
  let line : Int := if attr.getLsbD 6 then h - 1 - line else line
  let tile : Int := if s.ppu.objSize then ((t &&& 0xFE).toNat : Int) + line / 8 else (t.toNat : Int)
  16 * tile + 2 * (line % 8)

/-- The color number of sprite pixel `k`, left to right on the screen (50_ppu.md R331). -/
def spriteColor (s : State) (i : Fin 40) (k : Nat) : BitVec 2 :=
  let o := spriteRowOffset s i
  let b := if (oamByte s (4 * i.val + 3)).getLsbD 5 then k else 7 - k
  colorNumber (spriteTileByte s o) (spriteTileByte s (o + 1)) b

/-- Pixel `k` of a sprite drawn over a row (50_ppu.md R332 to R334). -/
def drawSpritePixel (s : State) (i : Fin 40) (row : Row) (k : Nat) : Row :=
  let attr := oamByte s (4 * i.val + 3)
  let c := spriteColor s i k
  let p := spriteX s i + k
  if h : c ≠ 0 ∧ 8 ≤ p ∧ p < 168 then
    have hx : p - 8 < 160 := by omega
    if attr.getLsbD 7 = false ∨ row[p - 8] = 0 then
      row.set (p - 8) (paletteShade (if attr.getLsbD 4 then s.ppu.obp1 else s.ppu.obp0) c)
    else row
  else row

/-- `DrawSprite(i, row)` (50_ppu.md R334). -/
def drawSprite (s : State) (row : Row) (i : Fin 40) : Row := (List.range 8).foldl (drawSpritePixel s i) row

/-- The finished row of the current scanline (50_ppu.md R320). -/
def lineRow (s : State) : Row := s.ppu.lineObjs.foldl (drawSprite s) (backgroundRow s)

/-- `DrawLine()` (50_ppu.md R320, R335): the row is stored in the frame and handed to the host. LY is 0 to 143 in every
state a run reaches; for another LY there is no row to write (log 10). -/
def drawLine (s : State) : State :=
  if h : s.ppu.ly.toNat < 144 then
    let row := lineRow s
    { s with
      ppu := { s.ppu with frame := s.ppu.frame.set s.ppu.ly.toNat row }
      rowsReady := s.rowsReady ++ [{ ly := s.ppu.ly, row := row }] }
  else s

/-! ### The mode state machine (50_ppu.md R300 to R312) -/

/-- The STAT code of a mode (10_state.md R46). -/
def PpuMode.code : PpuMode → BitVec 2
  | .off => 0
  | .mode0 => 0
  | .mode1 => 1
  | .mode2 => 2
  | .mode3 => 3

/-- The STAT enable bit of the entry to a mode: bits 3, 4, 5 of STAT for Mode0, Mode1, Mode2 (10_state.md R46). -/
def Ppu.entryEnabled (p : Ppu) (m : PpuMode) : Bool :=
  match m with
  | .mode0 => p.statEnables.getLsbD 0
  | .mode1 => p.statEnables.getLsbD 1
  | .mode2 => p.statEnables.getLsbD 2
  | .mode3 => false
  | .off => false

/-- `StatUpdate(m)` (50_ppu.md R310). -/
def statUpdate (m : PpuMode) (s : State) : State :=
  let equal := s.ppu.ly == s.ppu.lyc
  let s' := { s with ppu := { s.ppu with coincidence := equal, statMode := m.code } }
  s'.requestIf ((equal && s.ppu.statEnables.getLsbD 3) || s.ppu.entryEnabled m) .lcdStat

/-- A mode change: the new mode, `dots` at 0, then `StatUpdate`. -/
def enterMode (m : PpuMode) (s : State) : State :=
  statUpdate m { s with ppu := { s.ppu with mode := m, dots := 0 } }

/-- LY written by the PPU. -/
def setLy (v : Byte) (s : State) : State := { s with ppu := { s.ppu with ly := v } }

/-- The exit of Mode0: LY plus 1, then Mode1 with a vblank request at line 144, else Mode2 (50_ppu.md R304, R305, R312). -/
def leaveMode0 (s : State) : State :=
  let ly := s.ppu.ly + 1
  if ly = 144 then enterMode .mode1 ((setLy ly s).request .vblank)
  else enterMode .mode2 (setLy ly s)

/-- The object search at the exit of Mode2. -/
def searchObjects (s : State) : State := { s with ppu := { s.ppu with lineObjs := objectSearch s } }

/-- LY inside Mode1 (50_ppu.md R309). -/
def countVblankLines (dots : Nat) (s : State) : State :=
  if s.params.vblankLyCounts && decide (dots < 4560) && dots % 456 == 0 then
    setLy (BitVec.ofNat 8 (144 + dots / 456)) s
  else s

/-- `dots` written. -/
def setDots (d : Nat) (s : State) : State := { s with ppu := { s.ppu with dots := d } }

/-- The LCD is off: the PPU idles in Off (50_ppu.md R306). -/
def ppuOff (s : State) : State := { s with ppu := { s.ppu with mode := .off, dots := 0, statMode := 0 } }

/-- Four more dots of Mode2; at its exit the object search. -/
def advanceMode2 (s : State) : State :=
  if s.ppu.dots + 4 ≥ 80 then enterMode .mode3 (searchObjects s) else setDots (s.ppu.dots + 4) s

/-- Four more dots of Mode3; at its exit the line is drawn. -/
def advanceMode3 (s : State) : State :=
  if s.ppu.dots + 4 ≥ 172 then enterMode .mode0 (drawLine s) else setDots (s.ppu.dots + 4) s

/-- Four more dots of Mode0. -/
def advanceMode0 (s : State) : State :=
  if s.ppu.dots + 4 ≥ 204 then leaveMode0 s else setDots (s.ppu.dots + 4) s

/-- Four more dots of Mode1; at its exit line 0 begins. -/
def advanceMode1 (s : State) : State :=
  if s.ppu.dots + 4 ≥ 4560 then enterMode .mode2 (setLy 0 s)
  else countVblankLines (s.ppu.dots + 4) (setDots (s.ppu.dots + 4) s)

/-- `PpuAdvance()` with the LCD on; in Off it has just been turned on (50_ppu.md R307). -/
def ppuOn (s : State) : State :=
  match s.ppu.mode with
  | .off => enterMode .mode2 (setLy 0 s)
  | .mode0 => advanceMode0 s
  | .mode1 => advanceMode1 s
  | .mode2 => advanceMode2 s
  | .mode3 => advanceMode3 s

/-- `PpuAdvance()` (50_ppu.md R304). -/
def ppuAdvance (s : State) : State := if s.ppu.lcdEn then ppuOn s else ppuOff s

end Sys2Proof.Machine
end

