-- ==== Sys2Proof/Machine/Timer.lean ====
section
/-! DEFINITION. The timer's one transition (60_exceptions.md R365 to R371). -/

namespace Sys2Proof.Machine

/-- `TAC.enable`, bit 2 (10_state.md R42). -/
def Timer.enabled (t : Timer) : Bool := t.tac.getLsbD 2

/-- The period `TAC.select` chooses, in clock ticks: 1024, 16, 64, 256 (10_state.md R42). -/
def Timer.period (t : Timer) : Nat :=
  match t.tac.getLsbD 1, t.tac.getLsbD 0 with
  | false, false => 1024
  | false, true => 16
  | true, false => 64
  | true, true => 256

/-- The low bits of the counter wrap in this tick: `(old mod P) + 4 >= P` (60_exceptions.md R367). -/
def Timer.wraps (t : Timer) : Bool := decide (t.div.toNat % t.period + 4 ≥ t.period)

/-- `TimerTick` (60_exceptions.md R366). The tests use the counter before the tick. -/
def timerTick (s : State) : State :=
  let t := s.timer
  let counted := { t with div := t.div + 4 }
  if t.enabled && t.wraps then
    if t.tima = 0xFF then { s with timer := { counted with tima := t.tma } }.request .timer
    else { s with timer := { counted with tima := t.tima + 1 } }
  else { s with timer := counted }

end Sys2Proof.Machine
end

