-- ==== Sys2Proof/Machine/Cycles.lean ====
section
/-! DEFINITION. What stands between two machine cycles of the CPU, and the running of an instruction's remaining
machine cycles, and of a dispatch (00_scope.md R8, R12, 70_reset_and_hazards.md R412). -/

namespace Sys2Proof.Machine

/-- The timer and the PPU in one machine cycle, in the order of 00_scope.md R8. -/
def deviceTick (s : State) : State := ppuAdvance (timerTick s)

/-- The rest of a machine cycle after the CPU's part: the timer, the PPU, and then the host's turn before the next. -/
def endCycle (s : State) : State := hostTurn (deviceTick s)

/-- The stage counter goes on by one. -/
def State.nextStage (s : State) : State := { s with cpu := { s.cpu with stage := s.cpu.stage + 1 } }

/-- From the CPU's part of one machine cycle of an instruction to that of its next: the stage goes on and the cycle ends. -/
def between (s : State) : State := endCycle s.nextStage

/-- The CPU's parts of machine cycles, run one after another up to the terminal one. The end of the terminal cycle is not
run here: it is the caller's (`step` in Step.lean). -/
def runCycles : List Cycle → State → State
  | [], s => s
  | c :: cs, s =>
    match c s with
    | .more s' => runCycles cs (between s')
    | .done s' => s'

/-- The meaning of an instruction: the machine cycles left after its operand bytes are read, beginning with the CPU's part
of the cycle that read the last of its bytes. -/
def execute (cycles : List Cycle) (s : State) : Result := .next (runCycles cycles s)

/-- The end of a step: the end of its last machine cycle, which the cycle that finds an undefined opcode does not have
(00_scope.md R8). -/
def finishCycle (s : State) : State := if s.cpu.fatal.isSome then s else endCycle s

/-- The end of the step of an instruction. -/
def finish : Result → Result
  | .next s => .next (finishCycle s)
  | .fault f => .fault f
  | .refused r => .refused r

/-- IR holds the marker of the dispatch of a source (10_state.md R33). -/
def latchDispatch (k : Source) (s : State) : State := { s with cpu := { s.cpu with ir := .int k } }

/-- The whole dispatch of a source, five machine cycles (60_exceptions.md R358). -/
def dispatchStep (k : Source) (s : State) : Result := finish (execute (dispatchCycles k) (latchDispatch k s))

end Sys2Proof.Machine
end

