-- ==== Sys2Proof/Machine/Alu16.lean ====
section
/-! DEFINITION. 16-bit arithmetic (43_alu16.md R220 to R224). -/

namespace Sys2Proof.Machine

/-! ### The forms, each the machine cycles left after its operand bytes are read -/

/-- `ADD HL,rr` (R220). -/
def addHlCycles (rr : Reg16) : List Cycle :=
  [idle,
   last fun s => ((s.setR16 .hl (s.hl + s.r16 rr)).setFlags (addHlFlags s.hl (s.r16 rr) s.cpu.f)).advance 1]

/-- `INC rr` (R221): no flag is written. -/
def incPairCycles (rr : Reg16) : List Cycle := [idle, last fun s => (s.setR16 rr (s.r16 rr + 1)).advance 1]

/-- `DEC rr` (R222): no flag is written. -/
def decPairCycles (rr : Reg16) : List Cycle := [idle, last fun s => (s.setR16 rr (s.r16 rr - 1)).advance 1]

/-- `ADD SP,e` (R223): two internal cycles. -/
def addSpCycles (e : Int) : List Cycle :=
  [idle,
   idle,
   last fun s => ((s.setSp (s.cpu.sp + displacementWord e)).setFlags (addSpFlags s.cpu.sp e)).advance 2]

/-! ### The meanings, one definition per row of the opcode table -/

/-- `INC BC`, 0x03 (43_alu16.md R221). -/
def exec_inc_bc (s : State) : Result := execute (incPairCycles .bc) s

/-- `ADD HL,BC`, 0x09 (43_alu16.md R220). -/
def exec_add_hl_bc (s : State) : Result := execute (addHlCycles .bc) s

/-- `DEC BC`, 0x0B (43_alu16.md R222). -/
def exec_dec_bc (s : State) : Result := execute (decPairCycles .bc) s

/-- `INC DE`, 0x13 (43_alu16.md R221). -/
def exec_inc_de (s : State) : Result := execute (incPairCycles .de) s

/-- `ADD HL,DE`, 0x19 (43_alu16.md R220). -/
def exec_add_hl_de (s : State) : Result := execute (addHlCycles .de) s

/-- `DEC DE`, 0x1B (43_alu16.md R222). -/
def exec_dec_de (s : State) : Result := execute (decPairCycles .de) s

/-- `INC HL`, 0x23 (43_alu16.md R221). -/
def exec_inc_hl (s : State) : Result := execute (incPairCycles .hl) s

/-- `ADD HL,HL`, 0x29 (43_alu16.md R220). -/
def exec_add_hl_hl (s : State) : Result := execute (addHlCycles .hl) s

/-- `DEC HL`, 0x2B (43_alu16.md R222). -/
def exec_dec_hl (s : State) : Result := execute (decPairCycles .hl) s

/-- `INC SP`, 0x33 (43_alu16.md R221). -/
def exec_inc_sp (s : State) : Result := execute (incPairCycles .sp) s

/-- `ADD HL,SP`, 0x39 (43_alu16.md R220). -/
def exec_add_hl_sp (s : State) : Result := execute (addHlCycles .sp) s

/-- `DEC SP`, 0x3B (43_alu16.md R222). -/
def exec_dec_sp (s : State) : Result := execute (decPairCycles .sp) s

/-- `ADD SP,e`, 0xE8 (43_alu16.md R223). -/
def exec_add_sp_e (e : Int) (s : State) : Result := execute (addSpCycles e) s

end Sys2Proof.Machine
end

