-- ==== Sys2Proof/Machine/Alu8.lean ====
section
/-! DEFINITION. 8-bit arithmetic and logic (42_alu8.md R185 to R203). -/

namespace Sys2Proof.Machine

/-! ### The forms, each the machine cycles left after its operand bytes are read -/

/-- The result and the flags of an accumulator operation on A and an operand (R186). -/
def applyAlu (op : AluOp) (v : Byte) (s : State) : State :=
  (s.setR8 .a (aluResult op (s.r8 .a) v s.cpu.f.c)).setFlags (aluFlags op (s.r8 .a) v s.cpu.f.c)

/-- The register form (R186). -/
def aluRegCycles (op : AluOp) (r : Reg8) : List Cycle := [last fun s => (applyAlu op (s.r8 r) s).advance 1]

/-- The memory form (R186). -/
def aluMemCycles (op : AluOp) : List Cycle := [idle, last fun s => (applyAlu op (memRead s s.hl) s).advance 1]

/-- The immediate form (R186). -/
def aluImmCycles (op : AluOp) (n : Byte) : List Cycle := [last fun s => (applyAlu op n s).advance 2]

/-- `INC r` (R195). -/
def incRegCycles (r : Reg8) : List Cycle :=
  [last fun s => ((s.setR8 r (s.r8 r + 1)).setFlags (incFlags (s.r8 r) s.cpu.f)).advance 1]

/-- `DEC r` (R197). -/
def decRegCycles (r : Reg8) : List Cycle :=
  [last fun s => ((s.setR8 r (s.r8 r - 1)).setFlags (decFlags (s.r8 r) s.cpu.f)).advance 1]

/-- `INC (HL)` (R196): the read and the write are in separate machine cycles; the pass-through carries the byte and the flags. -/
def incMemCycles : List Cycle :=
  [idle,
   going fun s => (s.setD8 (memRead s s.hl + 1)).setPf (incFlags (memRead s s.hl) s.cpu.f),
   last fun s => ((memWrite s s.hl s.cpu.d8).setFlags s.cpu.pf).advance 1]

/-- `DEC (HL)` (R198): as `INC (HL)`. -/
def decMemCycles : List Cycle :=
  [idle,
   going fun s => (s.setD8 (memRead s s.hl - 1)).setPf (decFlags (memRead s s.hl) s.cpu.f),
   last fun s => ((memWrite s s.hl s.cpu.d8).setFlags s.cpu.pf).advance 1]

/-- `DAA` (R199). -/
def daaCycles : List Cycle :=
  [last fun s => ((s.setR8 .a (daaResult (s.r8 .a) s.cpu.f)).setFlags (daaFlags (s.r8 .a) s.cpu.f)).advance 1]

/-- `CPL` (R200). -/
def cplCycles : List Cycle :=
  [last fun s => ((s.setR8 .a (s.r8 .a ^^^ 0xFF)).setFlags { s.cpu.f with n := true, h := true }).advance 1]

/-- `SCF` (R201). -/
def scfCycles : List Cycle :=
  [last fun s => (s.setFlags { s.cpu.f with n := false, h := false, c := true }).advance 1]

/-- `CCF` (R202). -/
def ccfCycles : List Cycle :=
  [last fun s => (s.setFlags { s.cpu.f with n := false, h := false, c := !s.cpu.f.c }).advance 1]

/-! ### The meanings, one definition per row of the opcode table -/

/-- `INC B`, 0x04 (42_alu8.md R195). -/
def exec_inc_b (s : State) : Result := execute (incRegCycles .b) s

/-- `DEC B`, 0x05 (42_alu8.md R197). -/
def exec_dec_b (s : State) : Result := execute (decRegCycles .b) s

/-- `INC C`, 0x0C (42_alu8.md R195). -/
def exec_inc_c (s : State) : Result := execute (incRegCycles .c) s

/-- `DEC C`, 0x0D (42_alu8.md R197). -/
def exec_dec_c (s : State) : Result := execute (decRegCycles .c) s

/-- `INC D`, 0x14 (42_alu8.md R195). -/
def exec_inc_d (s : State) : Result := execute (incRegCycles .d) s

/-- `DEC D`, 0x15 (42_alu8.md R197). -/
def exec_dec_d (s : State) : Result := execute (decRegCycles .d) s

/-- `INC E`, 0x1C (42_alu8.md R195). -/
def exec_inc_e (s : State) : Result := execute (incRegCycles .e) s

/-- `DEC E`, 0x1D (42_alu8.md R197). -/
def exec_dec_e (s : State) : Result := execute (decRegCycles .e) s

/-- `INC H`, 0x24 (42_alu8.md R195). -/
def exec_inc_h (s : State) : Result := execute (incRegCycles .h) s

/-- `DEC H`, 0x25 (42_alu8.md R197). -/
def exec_dec_h (s : State) : Result := execute (decRegCycles .h) s

/-- `DAA`, 0x27 (42_alu8.md R199). -/
def exec_daa (s : State) : Result := execute (daaCycles) s

/-- `INC L`, 0x2C (42_alu8.md R195). -/
def exec_inc_l (s : State) : Result := execute (incRegCycles .l) s

/-- `DEC L`, 0x2D (42_alu8.md R197). -/
def exec_dec_l (s : State) : Result := execute (decRegCycles .l) s

/-- `CPL`, 0x2F (42_alu8.md R200). -/
def exec_cpl (s : State) : Result := execute (cplCycles) s

/-- `INC (HL)`, 0x34 (42_alu8.md R196). -/
def exec_inc_mhl (s : State) : Result := execute (incMemCycles) s

/-- `DEC (HL)`, 0x35 (42_alu8.md R198). -/
def exec_dec_mhl (s : State) : Result := execute (decMemCycles) s

/-- `SCF`, 0x37 (42_alu8.md R201). -/
def exec_scf (s : State) : Result := execute (scfCycles) s

/-- `INC A`, 0x3C (42_alu8.md R195). -/
def exec_inc_a (s : State) : Result := execute (incRegCycles .a) s

/-- `DEC A`, 0x3D (42_alu8.md R197). -/
def exec_dec_a (s : State) : Result := execute (decRegCycles .a) s

/-- `CCF`, 0x3F (42_alu8.md R202). -/
def exec_ccf (s : State) : Result := execute (ccfCycles) s

/-- `ADD A,B`, 0x80 (42_alu8.md R187). -/
def exec_add_a_b (s : State) : Result := execute (aluRegCycles .add .b) s

/-- `ADD A,C`, 0x81 (42_alu8.md R187). -/
def exec_add_a_c (s : State) : Result := execute (aluRegCycles .add .c) s

/-- `ADD A,D`, 0x82 (42_alu8.md R187). -/
def exec_add_a_d (s : State) : Result := execute (aluRegCycles .add .d) s

/-- `ADD A,E`, 0x83 (42_alu8.md R187). -/
def exec_add_a_e (s : State) : Result := execute (aluRegCycles .add .e) s

/-- `ADD A,H`, 0x84 (42_alu8.md R187). -/
def exec_add_a_h (s : State) : Result := execute (aluRegCycles .add .h) s

/-- `ADD A,L`, 0x85 (42_alu8.md R187). -/
def exec_add_a_l (s : State) : Result := execute (aluRegCycles .add .l) s

/-- `ADD A,(HL)`, 0x86 (42_alu8.md R187). -/
def exec_add_a_mhl (s : State) : Result := execute (aluMemCycles .add) s

/-- `ADD A,A`, 0x87 (42_alu8.md R187). -/
def exec_add_a_a (s : State) : Result := execute (aluRegCycles .add .a) s

/-- `ADC A,B`, 0x88 (42_alu8.md R188). -/
def exec_adc_a_b (s : State) : Result := execute (aluRegCycles .adc .b) s

/-- `ADC A,C`, 0x89 (42_alu8.md R188). -/
def exec_adc_a_c (s : State) : Result := execute (aluRegCycles .adc .c) s

/-- `ADC A,D`, 0x8A (42_alu8.md R188). -/
def exec_adc_a_d (s : State) : Result := execute (aluRegCycles .adc .d) s

/-- `ADC A,E`, 0x8B (42_alu8.md R188). -/
def exec_adc_a_e (s : State) : Result := execute (aluRegCycles .adc .e) s

/-- `ADC A,H`, 0x8C (42_alu8.md R188). -/
def exec_adc_a_h (s : State) : Result := execute (aluRegCycles .adc .h) s

/-- `ADC A,L`, 0x8D (42_alu8.md R188). -/
def exec_adc_a_l (s : State) : Result := execute (aluRegCycles .adc .l) s

/-- `ADC A,(HL)`, 0x8E (42_alu8.md R188). -/
def exec_adc_a_mhl (s : State) : Result := execute (aluMemCycles .adc) s

/-- `ADC A,A`, 0x8F (42_alu8.md R188). -/
def exec_adc_a_a (s : State) : Result := execute (aluRegCycles .adc .a) s

/-- `SUB B`, 0x90 (42_alu8.md R189). -/
def exec_sub_b (s : State) : Result := execute (aluRegCycles .sub .b) s

/-- `SUB C`, 0x91 (42_alu8.md R189). -/
def exec_sub_c (s : State) : Result := execute (aluRegCycles .sub .c) s

/-- `SUB D`, 0x92 (42_alu8.md R189). -/
def exec_sub_d (s : State) : Result := execute (aluRegCycles .sub .d) s

/-- `SUB E`, 0x93 (42_alu8.md R189). -/
def exec_sub_e (s : State) : Result := execute (aluRegCycles .sub .e) s

/-- `SUB H`, 0x94 (42_alu8.md R189). -/
def exec_sub_h (s : State) : Result := execute (aluRegCycles .sub .h) s

/-- `SUB L`, 0x95 (42_alu8.md R189). -/
def exec_sub_l (s : State) : Result := execute (aluRegCycles .sub .l) s

/-- `SUB (HL)`, 0x96 (42_alu8.md R189). -/
def exec_sub_mhl (s : State) : Result := execute (aluMemCycles .sub) s

/-- `SUB A`, 0x97 (42_alu8.md R189). -/
def exec_sub_a (s : State) : Result := execute (aluRegCycles .sub .a) s

/-- `SBC A,B`, 0x98 (42_alu8.md R190). -/
def exec_sbc_a_b (s : State) : Result := execute (aluRegCycles .sbc .b) s

/-- `SBC A,C`, 0x99 (42_alu8.md R190). -/
def exec_sbc_a_c (s : State) : Result := execute (aluRegCycles .sbc .c) s

/-- `SBC A,D`, 0x9A (42_alu8.md R190). -/
def exec_sbc_a_d (s : State) : Result := execute (aluRegCycles .sbc .d) s

/-- `SBC A,E`, 0x9B (42_alu8.md R190). -/
def exec_sbc_a_e (s : State) : Result := execute (aluRegCycles .sbc .e) s

/-- `SBC A,H`, 0x9C (42_alu8.md R190). -/
def exec_sbc_a_h (s : State) : Result := execute (aluRegCycles .sbc .h) s

/-- `SBC A,L`, 0x9D (42_alu8.md R190). -/
def exec_sbc_a_l (s : State) : Result := execute (aluRegCycles .sbc .l) s

/-- `SBC A,(HL)`, 0x9E (42_alu8.md R190). -/
def exec_sbc_a_mhl (s : State) : Result := execute (aluMemCycles .sbc) s

/-- `SBC A,A`, 0x9F (42_alu8.md R190). -/
def exec_sbc_a_a (s : State) : Result := execute (aluRegCycles .sbc .a) s

/-- `AND B`, 0xA0 (42_alu8.md R191). -/
def exec_and_b (s : State) : Result := execute (aluRegCycles .and .b) s

/-- `AND C`, 0xA1 (42_alu8.md R191). -/
def exec_and_c (s : State) : Result := execute (aluRegCycles .and .c) s

/-- `AND D`, 0xA2 (42_alu8.md R191). -/
def exec_and_d (s : State) : Result := execute (aluRegCycles .and .d) s

/-- `AND E`, 0xA3 (42_alu8.md R191). -/
def exec_and_e (s : State) : Result := execute (aluRegCycles .and .e) s

/-- `AND H`, 0xA4 (42_alu8.md R191). -/
def exec_and_h (s : State) : Result := execute (aluRegCycles .and .h) s

/-- `AND L`, 0xA5 (42_alu8.md R191). -/
def exec_and_l (s : State) : Result := execute (aluRegCycles .and .l) s

/-- `AND (HL)`, 0xA6 (42_alu8.md R191). -/
def exec_and_mhl (s : State) : Result := execute (aluMemCycles .and) s

/-- `AND A`, 0xA7 (42_alu8.md R191). -/
def exec_and_a (s : State) : Result := execute (aluRegCycles .and .a) s

/-- `XOR B`, 0xA8 (42_alu8.md R192). -/
def exec_xor_b (s : State) : Result := execute (aluRegCycles .xor .b) s

/-- `XOR C`, 0xA9 (42_alu8.md R192). -/
def exec_xor_c (s : State) : Result := execute (aluRegCycles .xor .c) s

/-- `XOR D`, 0xAA (42_alu8.md R192). -/
def exec_xor_d (s : State) : Result := execute (aluRegCycles .xor .d) s

/-- `XOR E`, 0xAB (42_alu8.md R192). -/
def exec_xor_e (s : State) : Result := execute (aluRegCycles .xor .e) s

/-- `XOR H`, 0xAC (42_alu8.md R192). -/
def exec_xor_h (s : State) : Result := execute (aluRegCycles .xor .h) s

/-- `XOR L`, 0xAD (42_alu8.md R192). -/
def exec_xor_l (s : State) : Result := execute (aluRegCycles .xor .l) s

/-- `XOR (HL)`, 0xAE (42_alu8.md R192). -/
def exec_xor_mhl (s : State) : Result := execute (aluMemCycles .xor) s

/-- `XOR A`, 0xAF (42_alu8.md R192). -/
def exec_xor_a (s : State) : Result := execute (aluRegCycles .xor .a) s

/-- `OR B`, 0xB0 (42_alu8.md R193). -/
def exec_or_b (s : State) : Result := execute (aluRegCycles .or .b) s

/-- `OR C`, 0xB1 (42_alu8.md R193). -/
def exec_or_c (s : State) : Result := execute (aluRegCycles .or .c) s

/-- `OR D`, 0xB2 (42_alu8.md R193). -/
def exec_or_d (s : State) : Result := execute (aluRegCycles .or .d) s

/-- `OR E`, 0xB3 (42_alu8.md R193). -/
def exec_or_e (s : State) : Result := execute (aluRegCycles .or .e) s

/-- `OR H`, 0xB4 (42_alu8.md R193). -/
def exec_or_h (s : State) : Result := execute (aluRegCycles .or .h) s

/-- `OR L`, 0xB5 (42_alu8.md R193). -/
def exec_or_l (s : State) : Result := execute (aluRegCycles .or .l) s

/-- `OR (HL)`, 0xB6 (42_alu8.md R193). -/
def exec_or_mhl (s : State) : Result := execute (aluMemCycles .or) s

/-- `OR A`, 0xB7 (42_alu8.md R193). -/
def exec_or_a (s : State) : Result := execute (aluRegCycles .or .a) s

/-- `CP B`, 0xB8 (42_alu8.md R194). -/
def exec_cp_b (s : State) : Result := execute (aluRegCycles .cp .b) s

/-- `CP C`, 0xB9 (42_alu8.md R194). -/
def exec_cp_c (s : State) : Result := execute (aluRegCycles .cp .c) s

/-- `CP D`, 0xBA (42_alu8.md R194). -/
def exec_cp_d (s : State) : Result := execute (aluRegCycles .cp .d) s

/-- `CP E`, 0xBB (42_alu8.md R194). -/
def exec_cp_e (s : State) : Result := execute (aluRegCycles .cp .e) s

/-- `CP H`, 0xBC (42_alu8.md R194). -/
def exec_cp_h (s : State) : Result := execute (aluRegCycles .cp .h) s

/-- `CP L`, 0xBD (42_alu8.md R194). -/
def exec_cp_l (s : State) : Result := execute (aluRegCycles .cp .l) s

/-- `CP (HL)`, 0xBE (42_alu8.md R194). -/
def exec_cp_mhl (s : State) : Result := execute (aluMemCycles .cp) s

/-- `CP A`, 0xBF (42_alu8.md R194). -/
def exec_cp_a (s : State) : Result := execute (aluRegCycles .cp .a) s

/-- `ADD A,n`, 0xC6 (42_alu8.md R187). -/
def exec_add_a_n (n : Byte) (s : State) : Result := execute (aluImmCycles .add n) s

/-- `ADC A,n`, 0xCE (42_alu8.md R188). -/
def exec_adc_a_n (n : Byte) (s : State) : Result := execute (aluImmCycles .adc n) s

/-- `SUB n`, 0xD6 (42_alu8.md R189). -/
def exec_sub_n (n : Byte) (s : State) : Result := execute (aluImmCycles .sub n) s

/-- `SBC A,n`, 0xDE (42_alu8.md R190). -/
def exec_sbc_a_n (n : Byte) (s : State) : Result := execute (aluImmCycles .sbc n) s

/-- `AND n`, 0xE6 (42_alu8.md R191). -/
def exec_and_n (n : Byte) (s : State) : Result := execute (aluImmCycles .and n) s

/-- `XOR n`, 0xEE (42_alu8.md R192). -/
def exec_xor_n (n : Byte) (s : State) : Result := execute (aluImmCycles .xor n) s

/-- `OR n`, 0xF6 (42_alu8.md R193). -/
def exec_or_n (n : Byte) (s : State) : Result := execute (aluImmCycles .or n) s

/-- `CP n`, 0xFE (42_alu8.md R194). -/
def exec_cp_n (n : Byte) (s : State) : Result := execute (aluImmCycles .cp n) s

end Sys2Proof.Machine
end

