-- ==== Sys2Proof/Machine/Control.lean ====
section
/-! DEFINITION. Control transfer (45_control.md R260 to R278). No form writes a flag (R260). -/

namespace Sys2Proof.Machine

/-! ### The forms, each the machine cycles left after its operand bytes are read -/

/-- A cycle that checks a condition: the instruction goes on, or retires with PC advanced by its length (R260). -/
def branch (cc : Cond) (length : Word) : Cycle :=
  fun s => if condHolds cc s.cpu.f then .more s else .done (s.advance length)

/-- The address of the displacement's target: `(pc + 2 + sext_16(e)) mod 2^16` (R264). -/
def relativeTarget (e : Int) (s : State) : Word := s.cpu.pc + 2 + displacementWord e

/-- `JP nn` (R261). -/
def jpCycles (nn : Word) : List Cycle := [idle, last fun s => s.retire nn]

/-- `JP HL` (R262): no memory at HL is read. -/
def jpHlCycles : List Cycle := [last fun s => s.retire s.hl]

/-- `JP cc,nn` (R263). -/
def jpCondCycles (cc : Cond) (nn : Word) : List Cycle := [branch cc 3, last fun s => s.retire nn]

/-- `JR e` (R264). -/
def jrCycles (e : Int) : List Cycle := [idle, last fun s => s.retire (relativeTarget e s)]

/-- `JR cc,e` (R265). -/
def jrCondCycles (cc : Cond) (e : Int) : List Cycle := [branch cc 2, last fun s => s.retire (relativeTarget e s)]

/-- The pushes and the jump of a call: the return address is the byte after the instruction (R260, R266). -/
def callTail (nn : Word) : List Cycle := pushThenJump (fun s => s.cpu.pc + 3) (fun _ => nn) id

/-- `CALL nn` (R266). -/
def callCycles (nn : Word) : List Cycle := [idle, idle] ++ callTail nn

/-- `CALL cc,nn` (R267). -/
def callCondCycles (cc : Cond) (nn : Word) : List Cycle := [branch cc 3, idle] ++ callTail nn

/-- `RET` (R270). -/
def retCycles : List Cycle := idle :: returnCycles id

/-- `RET cc` (R271): the condition check has a cycle of its own. -/
def retCondCycles (cc : Cond) : List Cycle := [idle, branch cc 1] ++ returnCycles id

/-- IME set directly, without the `ei` latch (R274). -/
def enableInterrupts (s : State) : State := { s with cpu := { s.cpu with ime := true } }

/-- `RETI` (R274): the return from an interrupt restores PC and sets IME at the terminal stage. -/
def retiCycles : List Cycle := idle :: returnCycles enableInterrupts

/-- `RST t` with `t = 8 * y` (R276). -/
def rstCycles (y : Fin 8) : List Cycle :=
  [idle, idle] ++ pushThenJump (fun s => s.cpu.pc + 1) (fun _ => rstTarget y) id

/-! ### The meanings, one definition per row of the opcode table -/

/-- `JR e`, 0x18 (45_control.md R264). -/
def exec_jr_e (e : Int) (s : State) : Result := execute (jrCycles e) s

/-- `JR NZ,e`, 0x20 (45_control.md R265). -/
def exec_jr_nz_e (e : Int) (s : State) : Result := execute (jrCondCycles .nz e) s

/-- `JR Z,e`, 0x28 (45_control.md R265). -/
def exec_jr_z_e (e : Int) (s : State) : Result := execute (jrCondCycles .z e) s

/-- `JR NC,e`, 0x30 (45_control.md R265). -/
def exec_jr_nc_e (e : Int) (s : State) : Result := execute (jrCondCycles .nc e) s

/-- `JR C,e`, 0x38 (45_control.md R265). -/
def exec_jr_c_e (e : Int) (s : State) : Result := execute (jrCondCycles .c e) s

/-- `RET NZ`, 0xC0 (45_control.md R271). -/
def exec_ret_nz (s : State) : Result := execute (retCondCycles .nz) s

/-- `JP NZ,nn`, 0xC2 (45_control.md R263). -/
def exec_jp_nz_nn (nn : Word) (s : State) : Result := execute (jpCondCycles .nz nn) s

/-- `JP nn`, 0xC3 (45_control.md R261). -/
def exec_jp_nn (nn : Word) (s : State) : Result := execute (jpCycles nn) s

/-- `CALL NZ,nn`, 0xC4 (45_control.md R267). -/
def exec_call_nz_nn (nn : Word) (s : State) : Result := execute (callCondCycles .nz nn) s

/-- `RST 0x00`, 0xC7 (45_control.md R276). -/
def exec_rst_00 (s : State) : Result := execute (rstCycles 0) s

/-- `RET Z`, 0xC8 (45_control.md R271). -/
def exec_ret_z (s : State) : Result := execute (retCondCycles .z) s

/-- `RET`, 0xC9 (45_control.md R270). -/
def exec_ret (s : State) : Result := execute (retCycles) s

/-- `JP Z,nn`, 0xCA (45_control.md R263). -/
def exec_jp_z_nn (nn : Word) (s : State) : Result := execute (jpCondCycles .z nn) s

/-- `CALL Z,nn`, 0xCC (45_control.md R267). -/
def exec_call_z_nn (nn : Word) (s : State) : Result := execute (callCondCycles .z nn) s

/-- `CALL nn`, 0xCD (45_control.md R266). -/
def exec_call_nn (nn : Word) (s : State) : Result := execute (callCycles nn) s

/-- `RST 0x08`, 0xCF (45_control.md R276). -/
def exec_rst_08 (s : State) : Result := execute (rstCycles 1) s

/-- `RET NC`, 0xD0 (45_control.md R271). -/
def exec_ret_nc (s : State) : Result := execute (retCondCycles .nc) s

/-- `JP NC,nn`, 0xD2 (45_control.md R263). -/
def exec_jp_nc_nn (nn : Word) (s : State) : Result := execute (jpCondCycles .nc nn) s

/-- `CALL NC,nn`, 0xD4 (45_control.md R267). -/
def exec_call_nc_nn (nn : Word) (s : State) : Result := execute (callCondCycles .nc nn) s

/-- `RST 0x10`, 0xD7 (45_control.md R276). -/
def exec_rst_10 (s : State) : Result := execute (rstCycles 2) s

/-- `RET C`, 0xD8 (45_control.md R271). -/
def exec_ret_c (s : State) : Result := execute (retCondCycles .c) s

/-- `RETI`, 0xD9 (45_control.md R274). -/
def exec_reti (s : State) : Result := execute (retiCycles) s

/-- `JP C,nn`, 0xDA (45_control.md R263). -/
def exec_jp_c_nn (nn : Word) (s : State) : Result := execute (jpCondCycles .c nn) s

/-- `CALL C,nn`, 0xDC (45_control.md R267). -/
def exec_call_c_nn (nn : Word) (s : State) : Result := execute (callCondCycles .c nn) s

/-- `RST 0x18`, 0xDF (45_control.md R276). -/
def exec_rst_18 (s : State) : Result := execute (rstCycles 3) s

/-- `RST 0x20`, 0xE7 (45_control.md R276). -/
def exec_rst_20 (s : State) : Result := execute (rstCycles 4) s

/-- `JP HL`, 0xE9 (45_control.md R262). -/
def exec_jp_hl (s : State) : Result := execute (jpHlCycles) s

/-- `RST 0x28`, 0xEF (45_control.md R276). -/
def exec_rst_28 (s : State) : Result := execute (rstCycles 5) s

/-- `RST 0x30`, 0xF7 (45_control.md R276). -/
def exec_rst_30 (s : State) : Result := execute (rstCycles 6) s

/-- `RST 0x38`, 0xFF (45_control.md R276). -/
def exec_rst_38 (s : State) : Result := execute (rstCycles 7) s

end Sys2Proof.Machine
end

