-- ==== Sys2Proof/Machine/Load16.lean ====
section
/-! DEFINITION. 16-bit loads and the stack (41_load16_stack.md R170 to R176). -/

namespace Sys2Proof.Machine

/-! ### The forms, each the machine cycles left after its operand bytes are read -/

/-- `LD rr,nn` (R170). -/
def ldPairImmCycles (rr : Reg16) (nn : Word) : List Cycle := [last fun s => (s.setR16 rr nn).advance 3]

/-- `LD (nn),SP` (R171): low byte at nn, high byte at nn+1 in the next cycle. -/
def ldAbsSpCycles (nn : Word) : List Cycle :=
  [idle,
   going fun s => memWrite s nn (loByte s.cpu.sp),
   last fun s => (memWrite s (nn + 1) (hiByte s.cpu.sp)).advance 3]

/-- `LD SP,HL` (R172). -/
def ldSpHlCycles : List Cycle := [idle, last fun s => (s.setSp s.hl).advance 1]

/-- `PUSH rr` (R173). -/
def pushCycles (rr : Reg16s) : List Cycle :=
  [idle, idle] ++ pushThenJump (fun s => s.r16s rr) (fun s => s.cpu.pc + 1) id

/-- `POP rr` (R174). -/
def popCycles (rr : Reg16s) : List Cycle :=
  [idle,
   going popLow,
   last fun s => ((popHigh s).setR16s rr (popHigh s).cpu.d16).advance 1]

/-- `LD HL,SP+e` (R175). -/
def ldHlSpCycles (e : Int) : List Cycle :=
  [idle,
   last fun s => ((s.setR16 .hl (s.cpu.sp + displacementWord e)).setFlags (addSpFlags s.cpu.sp e)).advance 2]

/-! ### The meanings, one definition per row of the opcode table -/

/-- `LD BC,nn`, 0x01 (41_load16_stack.md R170). -/
def exec_ld_bc_nn (nn : Word) (s : State) : Result := execute (ldPairImmCycles .bc nn) s

/-- `LD (nn),SP`, 0x08 (41_load16_stack.md R171). -/
def exec_ld_mnn_sp (nn : Word) (s : State) : Result := execute (ldAbsSpCycles nn) s

/-- `LD DE,nn`, 0x11 (41_load16_stack.md R170). -/
def exec_ld_de_nn (nn : Word) (s : State) : Result := execute (ldPairImmCycles .de nn) s

/-- `LD HL,nn`, 0x21 (41_load16_stack.md R170). -/
def exec_ld_hl_nn (nn : Word) (s : State) : Result := execute (ldPairImmCycles .hl nn) s

/-- `LD SP,nn`, 0x31 (41_load16_stack.md R170). -/
def exec_ld_sp_nn (nn : Word) (s : State) : Result := execute (ldPairImmCycles .sp nn) s

/-- `POP BC`, 0xC1 (41_load16_stack.md R174). -/
def exec_pop_bc (s : State) : Result := execute (popCycles .bc) s

/-- `PUSH BC`, 0xC5 (41_load16_stack.md R173). -/
def exec_push_bc (s : State) : Result := execute (pushCycles .bc) s

/-- `POP DE`, 0xD1 (41_load16_stack.md R174). -/
def exec_pop_de (s : State) : Result := execute (popCycles .de) s

/-- `PUSH DE`, 0xD5 (41_load16_stack.md R173). -/
def exec_push_de (s : State) : Result := execute (pushCycles .de) s

/-- `POP HL`, 0xE1 (41_load16_stack.md R174). -/
def exec_pop_hl (s : State) : Result := execute (popCycles .hl) s

/-- `PUSH HL`, 0xE5 (41_load16_stack.md R173). -/
def exec_push_hl (s : State) : Result := execute (pushCycles .hl) s

/-- `POP AF`, 0xF1 (41_load16_stack.md R174). -/
def exec_pop_af (s : State) : Result := execute (popCycles .af) s

/-- `PUSH AF`, 0xF5 (41_load16_stack.md R173). -/
def exec_push_af (s : State) : Result := execute (pushCycles .af) s

/-- `LD HL,SP+e`, 0xF8 (41_load16_stack.md R175). -/
def exec_ld_hl_sp_e (e : Int) (s : State) : Result := execute (ldHlSpCycles e) s

/-- `LD SP,HL`, 0xF9 (41_load16_stack.md R172). -/
def exec_ld_sp_hl (s : State) : Result := execute (ldSpHlCycles) s

end Sys2Proof.Machine
end

