-- ==== Sys2Proof/Machine/Load8.lean ====
section
/-! DEFINITION. 8-bit loads and stores (40_load8.md R140 to R159). No form writes a flag (R140). -/

namespace Sys2Proof.Machine

/-! ### The forms, each the machine cycles left after its operand bytes are read -/

/-- `LD r,r'` (R141). -/
def ldRegRegCycles (dst src : Reg8) : List Cycle := [last fun s => (s.setR8 dst (s.r8 src)).advance 1]

/-- `LD r,n` (R142). -/
def ldRegImmCycles (r : Reg8) (n : Byte) : List Cycle := [last fun s => (s.setR8 r n).advance 2]

/-- A load of a register from an address in the next cycle, then the instruction's own change of a pair. -/
def loadCycles (r : Reg8) (address : State → Word) (after : State → State) (length : Word) : List Cycle :=
  [idle, last fun s => (after (s.setR8 r (memRead s (address s)))).advance length]

/-- A store of a byte to an address in the next cycle, then the instruction's own change of a pair. -/
def storeCycles (address : State → Word) (v : State → Byte) (after : State → State) (length : Word) : List Cycle :=
  [idle, last fun s => (after (memWrite s (address s) (v s))).advance length]

/-- `HL <- HL + d` modulo 2^16, for the forms (HL+) and (HL-) (R156 to R159). -/
def stepHl (d : Word) (s : State) : State := s.setR16 .hl (s.hl + d)

/-- `LD r,(HL)` (R143): HL is read before the register is written. -/
def ldRegMemCycles (r : Reg8) : List Cycle := loadCycles r State.hl id 1

/-- `LD (HL),r` (R144). -/
def ldMemRegCycles (r : Reg8) : List Cycle := storeCycles State.hl (fun s => s.r8 r) id 1

/-- `LD (HL),n` (R145). -/
def ldMemImmCycles (n : Byte) : List Cycle := storeCycles State.hl (fun _ => n) id 2

/-- `LD A,(BC)` and `LD A,(DE)` (R146, R147). -/
def ldAPairCycles (rr : Reg16) : List Cycle := loadCycles .a (fun s => s.r16 rr) id 1

/-- `LD (BC),A` and `LD (DE),A` (R148, R149). -/
def ldPairACycles (rr : Reg16) : List Cycle := storeCycles (fun s => s.r16 rr) (fun s => s.r8 .a) id 1

/-- `LD A,(nn)` (R150). -/
def ldAAbsCycles (nn : Word) : List Cycle := loadCycles .a (fun _ => nn) id 3

/-- `LD (nn),A` (R151). -/
def ldAbsACycles (nn : Word) : List Cycle := storeCycles (fun _ => nn) (fun s => s.r8 .a) id 3

/-- `LDH A,(C)` (R152). -/
def ldhACCycles : List Cycle := loadCycles .a (fun s => lastPage (s.r8 .c)) id 1

/-- `LDH (C),A` (R153). -/
def ldhCACycles : List Cycle := storeCycles (fun s => lastPage (s.r8 .c)) (fun s => s.r8 .a) id 1

/-- `LDH A,(n)` (R154). -/
def ldhAImmCycles (n : Byte) : List Cycle := loadCycles .a (fun _ => lastPage n) id 2

/-- `LDH (n),A` (R155). -/
def ldhImmACycles (n : Byte) : List Cycle := storeCycles (fun _ => lastPage n) (fun s => s.r8 .a) id 2

/-- `LD A,(HL-)` and `LD A,(HL+)` (R156, R158): the address is HL before it steps. -/
def ldAHlStepCycles (d : Word) : List Cycle := loadCycles .a State.hl (stepHl d) 1

/-- `LD (HL-),A` and `LD (HL+),A` (R157, R159): HL steps even when the store is dropped. -/
def ldHlStepACycles (d : Word) : List Cycle := storeCycles State.hl (fun s => s.r8 .a) (stepHl d) 1

/-! ### The meanings, one definition per row of the opcode table -/

/-- `LD (BC),A`, 0x02 (40_load8.md R148). -/
def exec_ld_mbc_a (s : State) : Result := execute (ldPairACycles .bc) s

/-- `LD B,n`, 0x06 (40_load8.md R142). -/
def exec_ld_b_n (n : Byte) (s : State) : Result := execute (ldRegImmCycles .b n) s

/-- `LD A,(BC)`, 0x0A (40_load8.md R146). -/
def exec_ld_a_mbc (s : State) : Result := execute (ldAPairCycles .bc) s

/-- `LD C,n`, 0x0E (40_load8.md R142). -/
def exec_ld_c_n (n : Byte) (s : State) : Result := execute (ldRegImmCycles .c n) s

/-- `LD (DE),A`, 0x12 (40_load8.md R149). -/
def exec_ld_mde_a (s : State) : Result := execute (ldPairACycles .de) s

/-- `LD D,n`, 0x16 (40_load8.md R142). -/
def exec_ld_d_n (n : Byte) (s : State) : Result := execute (ldRegImmCycles .d n) s

/-- `LD A,(DE)`, 0x1A (40_load8.md R147). -/
def exec_ld_a_mde (s : State) : Result := execute (ldAPairCycles .de) s

/-- `LD E,n`, 0x1E (40_load8.md R142). -/
def exec_ld_e_n (n : Byte) (s : State) : Result := execute (ldRegImmCycles .e n) s

/-- `LD (HL+),A`, 0x22 (40_load8.md R159). -/
def exec_ld_mhli_a (s : State) : Result := execute (ldHlStepACycles 1) s

/-- `LD H,n`, 0x26 (40_load8.md R142). -/
def exec_ld_h_n (n : Byte) (s : State) : Result := execute (ldRegImmCycles .h n) s

/-- `LD A,(HL+)`, 0x2A (40_load8.md R158). -/
def exec_ld_a_mhli (s : State) : Result := execute (ldAHlStepCycles 1) s

/-- `LD L,n`, 0x2E (40_load8.md R142). -/
def exec_ld_l_n (n : Byte) (s : State) : Result := execute (ldRegImmCycles .l n) s

/-- `LD (HL-),A`, 0x32 (40_load8.md R157). -/
def exec_ld_mhld_a (s : State) : Result := execute (ldHlStepACycles (-1)) s

/-- `LD (HL),n`, 0x36 (40_load8.md R145). -/
def exec_ld_mhl_n (n : Byte) (s : State) : Result := execute (ldMemImmCycles n) s

/-- `LD A,(HL-)`, 0x3A (40_load8.md R156). -/
def exec_ld_a_mhld (s : State) : Result := execute (ldAHlStepCycles (-1)) s

/-- `LD A,n`, 0x3E (40_load8.md R142). -/
def exec_ld_a_n (n : Byte) (s : State) : Result := execute (ldRegImmCycles .a n) s

/-- `LD B,B`, 0x40 (40_load8.md R141). -/
def exec_ld_b_b (s : State) : Result := execute (ldRegRegCycles .b .b) s

/-- `LD B,C`, 0x41 (40_load8.md R141). -/
def exec_ld_b_c (s : State) : Result := execute (ldRegRegCycles .b .c) s

/-- `LD B,D`, 0x42 (40_load8.md R141). -/
def exec_ld_b_d (s : State) : Result := execute (ldRegRegCycles .b .d) s

/-- `LD B,E`, 0x43 (40_load8.md R141). -/
def exec_ld_b_e (s : State) : Result := execute (ldRegRegCycles .b .e) s

/-- `LD B,H`, 0x44 (40_load8.md R141). -/
def exec_ld_b_h (s : State) : Result := execute (ldRegRegCycles .b .h) s

/-- `LD B,L`, 0x45 (40_load8.md R141). -/
def exec_ld_b_l (s : State) : Result := execute (ldRegRegCycles .b .l) s

/-- `LD B,(HL)`, 0x46 (40_load8.md R143). -/
def exec_ld_b_mhl (s : State) : Result := execute (ldRegMemCycles .b) s

/-- `LD B,A`, 0x47 (40_load8.md R141). -/
def exec_ld_b_a (s : State) : Result := execute (ldRegRegCycles .b .a) s

/-- `LD C,B`, 0x48 (40_load8.md R141). -/
def exec_ld_c_b (s : State) : Result := execute (ldRegRegCycles .c .b) s

/-- `LD C,C`, 0x49 (40_load8.md R141). -/
def exec_ld_c_c (s : State) : Result := execute (ldRegRegCycles .c .c) s

/-- `LD C,D`, 0x4A (40_load8.md R141). -/
def exec_ld_c_d (s : State) : Result := execute (ldRegRegCycles .c .d) s

/-- `LD C,E`, 0x4B (40_load8.md R141). -/
def exec_ld_c_e (s : State) : Result := execute (ldRegRegCycles .c .e) s

/-- `LD C,H`, 0x4C (40_load8.md R141). -/
def exec_ld_c_h (s : State) : Result := execute (ldRegRegCycles .c .h) s

/-- `LD C,L`, 0x4D (40_load8.md R141). -/
def exec_ld_c_l (s : State) : Result := execute (ldRegRegCycles .c .l) s

/-- `LD C,(HL)`, 0x4E (40_load8.md R143). -/
def exec_ld_c_mhl (s : State) : Result := execute (ldRegMemCycles .c) s

/-- `LD C,A`, 0x4F (40_load8.md R141). -/
def exec_ld_c_a (s : State) : Result := execute (ldRegRegCycles .c .a) s

/-- `LD D,B`, 0x50 (40_load8.md R141). -/
def exec_ld_d_b (s : State) : Result := execute (ldRegRegCycles .d .b) s

/-- `LD D,C`, 0x51 (40_load8.md R141). -/
def exec_ld_d_c (s : State) : Result := execute (ldRegRegCycles .d .c) s

/-- `LD D,D`, 0x52 (40_load8.md R141). -/
def exec_ld_d_d (s : State) : Result := execute (ldRegRegCycles .d .d) s

/-- `LD D,E`, 0x53 (40_load8.md R141). -/
def exec_ld_d_e (s : State) : Result := execute (ldRegRegCycles .d .e) s

/-- `LD D,H`, 0x54 (40_load8.md R141). -/
def exec_ld_d_h (s : State) : Result := execute (ldRegRegCycles .d .h) s

/-- `LD D,L`, 0x55 (40_load8.md R141). -/
def exec_ld_d_l (s : State) : Result := execute (ldRegRegCycles .d .l) s

/-- `LD D,(HL)`, 0x56 (40_load8.md R143). -/
def exec_ld_d_mhl (s : State) : Result := execute (ldRegMemCycles .d) s

/-- `LD D,A`, 0x57 (40_load8.md R141). -/
def exec_ld_d_a (s : State) : Result := execute (ldRegRegCycles .d .a) s

/-- `LD E,B`, 0x58 (40_load8.md R141). -/
def exec_ld_e_b (s : State) : Result := execute (ldRegRegCycles .e .b) s

/-- `LD E,C`, 0x59 (40_load8.md R141). -/
def exec_ld_e_c (s : State) : Result := execute (ldRegRegCycles .e .c) s

/-- `LD E,D`, 0x5A (40_load8.md R141). -/
def exec_ld_e_d (s : State) : Result := execute (ldRegRegCycles .e .d) s

/-- `LD E,E`, 0x5B (40_load8.md R141). -/
def exec_ld_e_e (s : State) : Result := execute (ldRegRegCycles .e .e) s

/-- `LD E,H`, 0x5C (40_load8.md R141). -/
def exec_ld_e_h (s : State) : Result := execute (ldRegRegCycles .e .h) s

/-- `LD E,L`, 0x5D (40_load8.md R141). -/
def exec_ld_e_l (s : State) : Result := execute (ldRegRegCycles .e .l) s

/-- `LD E,(HL)`, 0x5E (40_load8.md R143). -/
def exec_ld_e_mhl (s : State) : Result := execute (ldRegMemCycles .e) s

/-- `LD E,A`, 0x5F (40_load8.md R141). -/
def exec_ld_e_a (s : State) : Result := execute (ldRegRegCycles .e .a) s

/-- `LD H,B`, 0x60 (40_load8.md R141). -/
def exec_ld_h_b (s : State) : Result := execute (ldRegRegCycles .h .b) s

/-- `LD H,C`, 0x61 (40_load8.md R141). -/
def exec_ld_h_c (s : State) : Result := execute (ldRegRegCycles .h .c) s

/-- `LD H,D`, 0x62 (40_load8.md R141). -/
def exec_ld_h_d (s : State) : Result := execute (ldRegRegCycles .h .d) s

/-- `LD H,E`, 0x63 (40_load8.md R141). -/
def exec_ld_h_e (s : State) : Result := execute (ldRegRegCycles .h .e) s

/-- `LD H,H`, 0x64 (40_load8.md R141). -/
def exec_ld_h_h (s : State) : Result := execute (ldRegRegCycles .h .h) s

/-- `LD H,L`, 0x65 (40_load8.md R141). -/
def exec_ld_h_l (s : State) : Result := execute (ldRegRegCycles .h .l) s

/-- `LD H,(HL)`, 0x66 (40_load8.md R143). -/
def exec_ld_h_mhl (s : State) : Result := execute (ldRegMemCycles .h) s

/-- `LD H,A`, 0x67 (40_load8.md R141). -/
def exec_ld_h_a (s : State) : Result := execute (ldRegRegCycles .h .a) s

/-- `LD L,B`, 0x68 (40_load8.md R141). -/
def exec_ld_l_b (s : State) : Result := execute (ldRegRegCycles .l .b) s

/-- `LD L,C`, 0x69 (40_load8.md R141). -/
def exec_ld_l_c (s : State) : Result := execute (ldRegRegCycles .l .c) s

/-- `LD L,D`, 0x6A (40_load8.md R141). -/
def exec_ld_l_d (s : State) : Result := execute (ldRegRegCycles .l .d) s

/-- `LD L,E`, 0x6B (40_load8.md R141). -/
def exec_ld_l_e (s : State) : Result := execute (ldRegRegCycles .l .e) s

/-- `LD L,H`, 0x6C (40_load8.md R141). -/
def exec_ld_l_h (s : State) : Result := execute (ldRegRegCycles .l .h) s

/-- `LD L,L`, 0x6D (40_load8.md R141). -/
def exec_ld_l_l (s : State) : Result := execute (ldRegRegCycles .l .l) s

/-- `LD L,(HL)`, 0x6E (40_load8.md R143). -/
def exec_ld_l_mhl (s : State) : Result := execute (ldRegMemCycles .l) s

/-- `LD L,A`, 0x6F (40_load8.md R141). -/
def exec_ld_l_a (s : State) : Result := execute (ldRegRegCycles .l .a) s

/-- `LD (HL),B`, 0x70 (40_load8.md R144). -/
def exec_ld_mhl_b (s : State) : Result := execute (ldMemRegCycles .b) s

/-- `LD (HL),C`, 0x71 (40_load8.md R144). -/
def exec_ld_mhl_c (s : State) : Result := execute (ldMemRegCycles .c) s

/-- `LD (HL),D`, 0x72 (40_load8.md R144). -/
def exec_ld_mhl_d (s : State) : Result := execute (ldMemRegCycles .d) s

/-- `LD (HL),E`, 0x73 (40_load8.md R144). -/
def exec_ld_mhl_e (s : State) : Result := execute (ldMemRegCycles .e) s

/-- `LD (HL),H`, 0x74 (40_load8.md R144). -/
def exec_ld_mhl_h (s : State) : Result := execute (ldMemRegCycles .h) s

/-- `LD (HL),L`, 0x75 (40_load8.md R144). -/
def exec_ld_mhl_l (s : State) : Result := execute (ldMemRegCycles .l) s

/-- `LD (HL),A`, 0x77 (40_load8.md R144). -/
def exec_ld_mhl_a (s : State) : Result := execute (ldMemRegCycles .a) s

/-- `LD A,B`, 0x78 (40_load8.md R141). -/
def exec_ld_a_b (s : State) : Result := execute (ldRegRegCycles .a .b) s

/-- `LD A,C`, 0x79 (40_load8.md R141). -/
def exec_ld_a_c (s : State) : Result := execute (ldRegRegCycles .a .c) s

/-- `LD A,D`, 0x7A (40_load8.md R141). -/
def exec_ld_a_d (s : State) : Result := execute (ldRegRegCycles .a .d) s

/-- `LD A,E`, 0x7B (40_load8.md R141). -/
def exec_ld_a_e (s : State) : Result := execute (ldRegRegCycles .a .e) s

/-- `LD A,H`, 0x7C (40_load8.md R141). -/
def exec_ld_a_h (s : State) : Result := execute (ldRegRegCycles .a .h) s

/-- `LD A,L`, 0x7D (40_load8.md R141). -/
def exec_ld_a_l (s : State) : Result := execute (ldRegRegCycles .a .l) s

/-- `LD A,(HL)`, 0x7E (40_load8.md R143). -/
def exec_ld_a_mhl (s : State) : Result := execute (ldRegMemCycles .a) s

/-- `LD A,A`, 0x7F (40_load8.md R141). -/
def exec_ld_a_a (s : State) : Result := execute (ldRegRegCycles .a .a) s

/-- `LDH (n),A`, 0xE0 (40_load8.md R155). -/
def exec_ldh_mn_a (n : Byte) (s : State) : Result := execute (ldhImmACycles n) s

/-- `LDH (C),A`, 0xE2 (40_load8.md R153). -/
def exec_ldh_mc_a (s : State) : Result := execute (ldhCACycles) s

/-- `LD (nn),A`, 0xEA (40_load8.md R151). -/
def exec_ld_mnn_a (nn : Word) (s : State) : Result := execute (ldAbsACycles nn) s

/-- `LDH A,(n)`, 0xF0 (40_load8.md R154). -/
def exec_ldh_a_mn (n : Byte) (s : State) : Result := execute (ldhAImmCycles n) s

/-- `LDH A,(C)`, 0xF2 (40_load8.md R152). -/
def exec_ldh_a_mc (s : State) : Result := execute (ldhACCycles) s

/-- `LD A,(nn)`, 0xFA (40_load8.md R150). -/
def exec_ld_a_mnn (nn : Word) (s : State) : Result := execute (ldAAbsCycles nn) s

end Sys2Proof.Machine
end

