-- ==== Sys2Proof/Machine/Rotate.lean ====
section
/-! DEFINITION. Rotates, shifts and bit operations (44_rotate_shift_bit.md R230 to R247). -/

namespace Sys2Proof.Machine

/-! ### The forms, each the machine cycles left after its operand bytes are read -/

/-- RLCA, RRCA, RLA, RRA: the rotate of A with Z clear (R230 to R234). -/
def accRotateCycles (op : ShiftOp) : List Cycle :=
  [last fun s => ((s.setR8 .a (shiftResult op (s.r8 .a) s.cpu.f.c)).setFlags (accRotateFlags op (s.r8 .a))).advance 1]

/-- A prefixed rotate or shift on a register: it completes in the cycle of the sub-opcode fetch (R236). -/
def shiftRegCycles (op : ShiftOp) (r : Reg8) : List Cycle :=
  [last fun s =>
    ((s.setR8 r (shiftResult op (s.r8 r) s.cpu.f.c)).setFlags (shiftFlags op (s.r8 r) s.cpu.f.c)).advance 2]

/-- A read-modify-write of the byte at HL: the read in M3, the write in M4 (R236). `d8` holds the sub-opcode (10_state.md
R33), so the result waits in `d16` and the flags in `pf`. -/
def modifyMemCycles (result : Byte → Flags → Byte) (flags : Byte → Flags → Flags) : List Cycle :=
  [idle,
   going fun s =>
     (s.setD16 (zext16 (result (memRead s s.hl) s.cpu.f))).setPf (flags (memRead s s.hl) s.cpu.f),
   last fun s => ((memWrite s s.hl (loByte s.cpu.d16)).setFlags s.cpu.pf).advance 2]

/-- A prefixed rotate or shift on the byte at HL (R236 to R244). -/
def shiftMemCycles (op : ShiftOp) : List Cycle :=
  modifyMemCycles (fun v f => shiftResult op v f.c) (fun v f => shiftFlags op v f.c)

/-- `BIT b,r` (R245). -/
def bitRegCycles (b : Fin 8) (r : Reg8) : List Cycle :=
  [last fun s => (s.setFlags (bitFlags b (s.r8 r) s.cpu.f)).advance 2]

/-- `BIT b,(HL)` (R245): there is no write-back. -/
def bitMemCycles (b : Fin 8) : List Cycle :=
  [idle, last fun s => (s.setFlags (bitFlags b (memRead s s.hl) s.cpu.f)).advance 2]

/-- `RES b,r` (R246). -/
def resRegCycles (b : Fin 8) (r : Reg8) : List Cycle := [last fun s => (s.setR8 r (resResult b (s.r8 r))).advance 2]

/-- `RES b,(HL)` (R246): the byte is written back even when it did not change. -/
def resMemCycles (b : Fin 8) : List Cycle := modifyMemCycles (fun v _ => resResult b v) (fun _ f => f)

/-- `SET b,r` (R247). -/
def setRegCycles (b : Fin 8) (r : Reg8) : List Cycle := [last fun s => (s.setR8 r (setResult b (s.r8 r))).advance 2]

/-- `SET b,(HL)` (R247): the byte is written back even when it did not change. -/
def setMemCycles (b : Fin 8) : List Cycle := modifyMemCycles (fun v _ => setResult b v) (fun _ f => f)

/-! ### The meanings, one definition per row of the opcode table -/

/-- `RLCA`, 0x07 (44_rotate_shift_bit.md R230). -/
def exec_rlca (s : State) : Result := execute (accRotateCycles .rlc) s

/-- `RRCA`, 0x0F (44_rotate_shift_bit.md R231). -/
def exec_rrca (s : State) : Result := execute (accRotateCycles .rrc) s

/-- `RLA`, 0x17 (44_rotate_shift_bit.md R232). -/
def exec_rla (s : State) : Result := execute (accRotateCycles .rl) s

/-- `RRA`, 0x1F (44_rotate_shift_bit.md R233). -/
def exec_rra (s : State) : Result := execute (accRotateCycles .rr) s

/-- `RLC B`, 0xCB 0x00 (44_rotate_shift_bit.md R237). -/
def exec_rlc_b (s : State) : Result := execute (shiftRegCycles .rlc .b) s

/-- `RLC C`, 0xCB 0x01 (44_rotate_shift_bit.md R237). -/
def exec_rlc_c (s : State) : Result := execute (shiftRegCycles .rlc .c) s

/-- `RLC D`, 0xCB 0x02 (44_rotate_shift_bit.md R237). -/
def exec_rlc_d (s : State) : Result := execute (shiftRegCycles .rlc .d) s

/-- `RLC E`, 0xCB 0x03 (44_rotate_shift_bit.md R237). -/
def exec_rlc_e (s : State) : Result := execute (shiftRegCycles .rlc .e) s

/-- `RLC H`, 0xCB 0x04 (44_rotate_shift_bit.md R237). -/
def exec_rlc_h (s : State) : Result := execute (shiftRegCycles .rlc .h) s

/-- `RLC L`, 0xCB 0x05 (44_rotate_shift_bit.md R237). -/
def exec_rlc_l (s : State) : Result := execute (shiftRegCycles .rlc .l) s

/-- `RLC (HL)`, 0xCB 0x06 (44_rotate_shift_bit.md R237). -/
def exec_rlc_mhl (s : State) : Result := execute (shiftMemCycles .rlc) s

/-- `RLC A`, 0xCB 0x07 (44_rotate_shift_bit.md R237). -/
def exec_rlc_a (s : State) : Result := execute (shiftRegCycles .rlc .a) s

/-- `RRC B`, 0xCB 0x08 (44_rotate_shift_bit.md R238). -/
def exec_rrc_b (s : State) : Result := execute (shiftRegCycles .rrc .b) s

/-- `RRC C`, 0xCB 0x09 (44_rotate_shift_bit.md R238). -/
def exec_rrc_c (s : State) : Result := execute (shiftRegCycles .rrc .c) s

/-- `RRC D`, 0xCB 0x0A (44_rotate_shift_bit.md R238). -/
def exec_rrc_d (s : State) : Result := execute (shiftRegCycles .rrc .d) s

/-- `RRC E`, 0xCB 0x0B (44_rotate_shift_bit.md R238). -/
def exec_rrc_e (s : State) : Result := execute (shiftRegCycles .rrc .e) s

/-- `RRC H`, 0xCB 0x0C (44_rotate_shift_bit.md R238). -/
def exec_rrc_h (s : State) : Result := execute (shiftRegCycles .rrc .h) s

/-- `RRC L`, 0xCB 0x0D (44_rotate_shift_bit.md R238). -/
def exec_rrc_l (s : State) : Result := execute (shiftRegCycles .rrc .l) s

/-- `RRC (HL)`, 0xCB 0x0E (44_rotate_shift_bit.md R238). -/
def exec_rrc_mhl (s : State) : Result := execute (shiftMemCycles .rrc) s

/-- `RRC A`, 0xCB 0x0F (44_rotate_shift_bit.md R238). -/
def exec_rrc_a (s : State) : Result := execute (shiftRegCycles .rrc .a) s

/-- `RL B`, 0xCB 0x10 (44_rotate_shift_bit.md R239). -/
def exec_rl_b (s : State) : Result := execute (shiftRegCycles .rl .b) s

/-- `RL C`, 0xCB 0x11 (44_rotate_shift_bit.md R239). -/
def exec_rl_c (s : State) : Result := execute (shiftRegCycles .rl .c) s

/-- `RL D`, 0xCB 0x12 (44_rotate_shift_bit.md R239). -/
def exec_rl_d (s : State) : Result := execute (shiftRegCycles .rl .d) s

/-- `RL E`, 0xCB 0x13 (44_rotate_shift_bit.md R239). -/
def exec_rl_e (s : State) : Result := execute (shiftRegCycles .rl .e) s

/-- `RL H`, 0xCB 0x14 (44_rotate_shift_bit.md R239). -/
def exec_rl_h (s : State) : Result := execute (shiftRegCycles .rl .h) s

/-- `RL L`, 0xCB 0x15 (44_rotate_shift_bit.md R239). -/
def exec_rl_l (s : State) : Result := execute (shiftRegCycles .rl .l) s

/-- `RL (HL)`, 0xCB 0x16 (44_rotate_shift_bit.md R239). -/
def exec_rl_mhl (s : State) : Result := execute (shiftMemCycles .rl) s

/-- `RL A`, 0xCB 0x17 (44_rotate_shift_bit.md R239). -/
def exec_rl_a (s : State) : Result := execute (shiftRegCycles .rl .a) s

/-- `RR B`, 0xCB 0x18 (44_rotate_shift_bit.md R240). -/
def exec_rr_b (s : State) : Result := execute (shiftRegCycles .rr .b) s

/-- `RR C`, 0xCB 0x19 (44_rotate_shift_bit.md R240). -/
def exec_rr_c (s : State) : Result := execute (shiftRegCycles .rr .c) s

/-- `RR D`, 0xCB 0x1A (44_rotate_shift_bit.md R240). -/
def exec_rr_d (s : State) : Result := execute (shiftRegCycles .rr .d) s

/-- `RR E`, 0xCB 0x1B (44_rotate_shift_bit.md R240). -/
def exec_rr_e (s : State) : Result := execute (shiftRegCycles .rr .e) s

/-- `RR H`, 0xCB 0x1C (44_rotate_shift_bit.md R240). -/
def exec_rr_h (s : State) : Result := execute (shiftRegCycles .rr .h) s

/-- `RR L`, 0xCB 0x1D (44_rotate_shift_bit.md R240). -/
def exec_rr_l (s : State) : Result := execute (shiftRegCycles .rr .l) s

/-- `RR (HL)`, 0xCB 0x1E (44_rotate_shift_bit.md R240). -/
def exec_rr_mhl (s : State) : Result := execute (shiftMemCycles .rr) s

/-- `RR A`, 0xCB 0x1F (44_rotate_shift_bit.md R240). -/
def exec_rr_a (s : State) : Result := execute (shiftRegCycles .rr .a) s

/-- `SLA B`, 0xCB 0x20 (44_rotate_shift_bit.md R241). -/
def exec_sla_b (s : State) : Result := execute (shiftRegCycles .sla .b) s

/-- `SLA C`, 0xCB 0x21 (44_rotate_shift_bit.md R241). -/
def exec_sla_c (s : State) : Result := execute (shiftRegCycles .sla .c) s

/-- `SLA D`, 0xCB 0x22 (44_rotate_shift_bit.md R241). -/
def exec_sla_d (s : State) : Result := execute (shiftRegCycles .sla .d) s

/-- `SLA E`, 0xCB 0x23 (44_rotate_shift_bit.md R241). -/
def exec_sla_e (s : State) : Result := execute (shiftRegCycles .sla .e) s

/-- `SLA H`, 0xCB 0x24 (44_rotate_shift_bit.md R241). -/
def exec_sla_h (s : State) : Result := execute (shiftRegCycles .sla .h) s

/-- `SLA L`, 0xCB 0x25 (44_rotate_shift_bit.md R241). -/
def exec_sla_l (s : State) : Result := execute (shiftRegCycles .sla .l) s

/-- `SLA (HL)`, 0xCB 0x26 (44_rotate_shift_bit.md R241). -/
def exec_sla_mhl (s : State) : Result := execute (shiftMemCycles .sla) s

/-- `SLA A`, 0xCB 0x27 (44_rotate_shift_bit.md R241). -/
def exec_sla_a (s : State) : Result := execute (shiftRegCycles .sla .a) s

/-- `SRA B`, 0xCB 0x28 (44_rotate_shift_bit.md R242). -/
def exec_sra_b (s : State) : Result := execute (shiftRegCycles .sra .b) s

/-- `SRA C`, 0xCB 0x29 (44_rotate_shift_bit.md R242). -/
def exec_sra_c (s : State) : Result := execute (shiftRegCycles .sra .c) s

/-- `SRA D`, 0xCB 0x2A (44_rotate_shift_bit.md R242). -/
def exec_sra_d (s : State) : Result := execute (shiftRegCycles .sra .d) s

/-- `SRA E`, 0xCB 0x2B (44_rotate_shift_bit.md R242). -/
def exec_sra_e (s : State) : Result := execute (shiftRegCycles .sra .e) s

/-- `SRA H`, 0xCB 0x2C (44_rotate_shift_bit.md R242). -/
def exec_sra_h (s : State) : Result := execute (shiftRegCycles .sra .h) s

/-- `SRA L`, 0xCB 0x2D (44_rotate_shift_bit.md R242). -/
def exec_sra_l (s : State) : Result := execute (shiftRegCycles .sra .l) s

/-- `SRA (HL)`, 0xCB 0x2E (44_rotate_shift_bit.md R242). -/
def exec_sra_mhl (s : State) : Result := execute (shiftMemCycles .sra) s

/-- `SRA A`, 0xCB 0x2F (44_rotate_shift_bit.md R242). -/
def exec_sra_a (s : State) : Result := execute (shiftRegCycles .sra .a) s

/-- `SWAP B`, 0xCB 0x30 (44_rotate_shift_bit.md R243). -/
def exec_swap_b (s : State) : Result := execute (shiftRegCycles .swap .b) s

/-- `SWAP C`, 0xCB 0x31 (44_rotate_shift_bit.md R243). -/
def exec_swap_c (s : State) : Result := execute (shiftRegCycles .swap .c) s

/-- `SWAP D`, 0xCB 0x32 (44_rotate_shift_bit.md R243). -/
def exec_swap_d (s : State) : Result := execute (shiftRegCycles .swap .d) s

/-- `SWAP E`, 0xCB 0x33 (44_rotate_shift_bit.md R243). -/
def exec_swap_e (s : State) : Result := execute (shiftRegCycles .swap .e) s

/-- `SWAP H`, 0xCB 0x34 (44_rotate_shift_bit.md R243). -/
def exec_swap_h (s : State) : Result := execute (shiftRegCycles .swap .h) s

/-- `SWAP L`, 0xCB 0x35 (44_rotate_shift_bit.md R243). -/
def exec_swap_l (s : State) : Result := execute (shiftRegCycles .swap .l) s

/-- `SWAP (HL)`, 0xCB 0x36 (44_rotate_shift_bit.md R243). -/
def exec_swap_mhl (s : State) : Result := execute (shiftMemCycles .swap) s

/-- `SWAP A`, 0xCB 0x37 (44_rotate_shift_bit.md R243). -/
def exec_swap_a (s : State) : Result := execute (shiftRegCycles .swap .a) s

/-- `SRL B`, 0xCB 0x38 (44_rotate_shift_bit.md R244). -/
def exec_srl_b (s : State) : Result := execute (shiftRegCycles .srl .b) s

/-- `SRL C`, 0xCB 0x39 (44_rotate_shift_bit.md R244). -/
def exec_srl_c (s : State) : Result := execute (shiftRegCycles .srl .c) s

/-- `SRL D`, 0xCB 0x3A (44_rotate_shift_bit.md R244). -/
def exec_srl_d (s : State) : Result := execute (shiftRegCycles .srl .d) s

/-- `SRL E`, 0xCB 0x3B (44_rotate_shift_bit.md R244). -/
def exec_srl_e (s : State) : Result := execute (shiftRegCycles .srl .e) s

/-- `SRL H`, 0xCB 0x3C (44_rotate_shift_bit.md R244). -/
def exec_srl_h (s : State) : Result := execute (shiftRegCycles .srl .h) s

/-- `SRL L`, 0xCB 0x3D (44_rotate_shift_bit.md R244). -/
def exec_srl_l (s : State) : Result := execute (shiftRegCycles .srl .l) s

/-- `SRL (HL)`, 0xCB 0x3E (44_rotate_shift_bit.md R244). -/
def exec_srl_mhl (s : State) : Result := execute (shiftMemCycles .srl) s

/-- `SRL A`, 0xCB 0x3F (44_rotate_shift_bit.md R244). -/
def exec_srl_a (s : State) : Result := execute (shiftRegCycles .srl .a) s

/-- `BIT 0,B`, 0xCB 0x40 (44_rotate_shift_bit.md R245). -/
def exec_bit_0_b (s : State) : Result := execute (bitRegCycles 0 .b) s

/-- `BIT 0,C`, 0xCB 0x41 (44_rotate_shift_bit.md R245). -/
def exec_bit_0_c (s : State) : Result := execute (bitRegCycles 0 .c) s

/-- `BIT 0,D`, 0xCB 0x42 (44_rotate_shift_bit.md R245). -/
def exec_bit_0_d (s : State) : Result := execute (bitRegCycles 0 .d) s

/-- `BIT 0,E`, 0xCB 0x43 (44_rotate_shift_bit.md R245). -/
def exec_bit_0_e (s : State) : Result := execute (bitRegCycles 0 .e) s

/-- `BIT 0,H`, 0xCB 0x44 (44_rotate_shift_bit.md R245). -/
def exec_bit_0_h (s : State) : Result := execute (bitRegCycles 0 .h) s

/-- `BIT 0,L`, 0xCB 0x45 (44_rotate_shift_bit.md R245). -/
def exec_bit_0_l (s : State) : Result := execute (bitRegCycles 0 .l) s

/-- `BIT 0,(HL)`, 0xCB 0x46 (44_rotate_shift_bit.md R245). -/
def exec_bit_0_mhl (s : State) : Result := execute (bitMemCycles 0) s

/-- `BIT 0,A`, 0xCB 0x47 (44_rotate_shift_bit.md R245). -/
def exec_bit_0_a (s : State) : Result := execute (bitRegCycles 0 .a) s

/-- `BIT 1,B`, 0xCB 0x48 (44_rotate_shift_bit.md R245). -/
def exec_bit_1_b (s : State) : Result := execute (bitRegCycles 1 .b) s

/-- `BIT 1,C`, 0xCB 0x49 (44_rotate_shift_bit.md R245). -/
def exec_bit_1_c (s : State) : Result := execute (bitRegCycles 1 .c) s

/-- `BIT 1,D`, 0xCB 0x4A (44_rotate_shift_bit.md R245). -/
def exec_bit_1_d (s : State) : Result := execute (bitRegCycles 1 .d) s

/-- `BIT 1,E`, 0xCB 0x4B (44_rotate_shift_bit.md R245). -/
def exec_bit_1_e (s : State) : Result := execute (bitRegCycles 1 .e) s

/-- `BIT 1,H`, 0xCB 0x4C (44_rotate_shift_bit.md R245). -/
def exec_bit_1_h (s : State) : Result := execute (bitRegCycles 1 .h) s

/-- `BIT 1,L`, 0xCB 0x4D (44_rotate_shift_bit.md R245). -/
def exec_bit_1_l (s : State) : Result := execute (bitRegCycles 1 .l) s

/-- `BIT 1,(HL)`, 0xCB 0x4E (44_rotate_shift_bit.md R245). -/
def exec_bit_1_mhl (s : State) : Result := execute (bitMemCycles 1) s

/-- `BIT 1,A`, 0xCB 0x4F (44_rotate_shift_bit.md R245). -/
def exec_bit_1_a (s : State) : Result := execute (bitRegCycles 1 .a) s

/-- `BIT 2,B`, 0xCB 0x50 (44_rotate_shift_bit.md R245). -/
def exec_bit_2_b (s : State) : Result := execute (bitRegCycles 2 .b) s

/-- `BIT 2,C`, 0xCB 0x51 (44_rotate_shift_bit.md R245). -/
def exec_bit_2_c (s : State) : Result := execute (bitRegCycles 2 .c) s

/-- `BIT 2,D`, 0xCB 0x52 (44_rotate_shift_bit.md R245). -/
def exec_bit_2_d (s : State) : Result := execute (bitRegCycles 2 .d) s

/-- `BIT 2,E`, 0xCB 0x53 (44_rotate_shift_bit.md R245). -/
def exec_bit_2_e (s : State) : Result := execute (bitRegCycles 2 .e) s

/-- `BIT 2,H`, 0xCB 0x54 (44_rotate_shift_bit.md R245). -/
def exec_bit_2_h (s : State) : Result := execute (bitRegCycles 2 .h) s

/-- `BIT 2,L`, 0xCB 0x55 (44_rotate_shift_bit.md R245). -/
def exec_bit_2_l (s : State) : Result := execute (bitRegCycles 2 .l) s

/-- `BIT 2,(HL)`, 0xCB 0x56 (44_rotate_shift_bit.md R245). -/
def exec_bit_2_mhl (s : State) : Result := execute (bitMemCycles 2) s

/-- `BIT 2,A`, 0xCB 0x57 (44_rotate_shift_bit.md R245). -/
def exec_bit_2_a (s : State) : Result := execute (bitRegCycles 2 .a) s

/-- `BIT 3,B`, 0xCB 0x58 (44_rotate_shift_bit.md R245). -/
def exec_bit_3_b (s : State) : Result := execute (bitRegCycles 3 .b) s

/-- `BIT 3,C`, 0xCB 0x59 (44_rotate_shift_bit.md R245). -/
def exec_bit_3_c (s : State) : Result := execute (bitRegCycles 3 .c) s

/-- `BIT 3,D`, 0xCB 0x5A (44_rotate_shift_bit.md R245). -/
def exec_bit_3_d (s : State) : Result := execute (bitRegCycles 3 .d) s

/-- `BIT 3,E`, 0xCB 0x5B (44_rotate_shift_bit.md R245). -/
def exec_bit_3_e (s : State) : Result := execute (bitRegCycles 3 .e) s

/-- `BIT 3,H`, 0xCB 0x5C (44_rotate_shift_bit.md R245). -/
def exec_bit_3_h (s : State) : Result := execute (bitRegCycles 3 .h) s

/-- `BIT 3,L`, 0xCB 0x5D (44_rotate_shift_bit.md R245). -/
def exec_bit_3_l (s : State) : Result := execute (bitRegCycles 3 .l) s

/-- `BIT 3,(HL)`, 0xCB 0x5E (44_rotate_shift_bit.md R245). -/
def exec_bit_3_mhl (s : State) : Result := execute (bitMemCycles 3) s

/-- `BIT 3,A`, 0xCB 0x5F (44_rotate_shift_bit.md R245). -/
def exec_bit_3_a (s : State) : Result := execute (bitRegCycles 3 .a) s

/-- `BIT 4,B`, 0xCB 0x60 (44_rotate_shift_bit.md R245). -/
def exec_bit_4_b (s : State) : Result := execute (bitRegCycles 4 .b) s

/-- `BIT 4,C`, 0xCB 0x61 (44_rotate_shift_bit.md R245). -/
def exec_bit_4_c (s : State) : Result := execute (bitRegCycles 4 .c) s

/-- `BIT 4,D`, 0xCB 0x62 (44_rotate_shift_bit.md R245). -/
def exec_bit_4_d (s : State) : Result := execute (bitRegCycles 4 .d) s

/-- `BIT 4,E`, 0xCB 0x63 (44_rotate_shift_bit.md R245). -/
def exec_bit_4_e (s : State) : Result := execute (bitRegCycles 4 .e) s

/-- `BIT 4,H`, 0xCB 0x64 (44_rotate_shift_bit.md R245). -/
def exec_bit_4_h (s : State) : Result := execute (bitRegCycles 4 .h) s

/-- `BIT 4,L`, 0xCB 0x65 (44_rotate_shift_bit.md R245). -/
def exec_bit_4_l (s : State) : Result := execute (bitRegCycles 4 .l) s

/-- `BIT 4,(HL)`, 0xCB 0x66 (44_rotate_shift_bit.md R245). -/
def exec_bit_4_mhl (s : State) : Result := execute (bitMemCycles 4) s

/-- `BIT 4,A`, 0xCB 0x67 (44_rotate_shift_bit.md R245). -/
def exec_bit_4_a (s : State) : Result := execute (bitRegCycles 4 .a) s

/-- `BIT 5,B`, 0xCB 0x68 (44_rotate_shift_bit.md R245). -/
def exec_bit_5_b (s : State) : Result := execute (bitRegCycles 5 .b) s

/-- `BIT 5,C`, 0xCB 0x69 (44_rotate_shift_bit.md R245). -/
def exec_bit_5_c (s : State) : Result := execute (bitRegCycles 5 .c) s

/-- `BIT 5,D`, 0xCB 0x6A (44_rotate_shift_bit.md R245). -/
def exec_bit_5_d (s : State) : Result := execute (bitRegCycles 5 .d) s

/-- `BIT 5,E`, 0xCB 0x6B (44_rotate_shift_bit.md R245). -/
def exec_bit_5_e (s : State) : Result := execute (bitRegCycles 5 .e) s

/-- `BIT 5,H`, 0xCB 0x6C (44_rotate_shift_bit.md R245). -/
def exec_bit_5_h (s : State) : Result := execute (bitRegCycles 5 .h) s

/-- `BIT 5,L`, 0xCB 0x6D (44_rotate_shift_bit.md R245). -/
def exec_bit_5_l (s : State) : Result := execute (bitRegCycles 5 .l) s

/-- `BIT 5,(HL)`, 0xCB 0x6E (44_rotate_shift_bit.md R245). -/
def exec_bit_5_mhl (s : State) : Result := execute (bitMemCycles 5) s

/-- `BIT 5,A`, 0xCB 0x6F (44_rotate_shift_bit.md R245). -/
def exec_bit_5_a (s : State) : Result := execute (bitRegCycles 5 .a) s

/-- `BIT 6,B`, 0xCB 0x70 (44_rotate_shift_bit.md R245). -/
def exec_bit_6_b (s : State) : Result := execute (bitRegCycles 6 .b) s

/-- `BIT 6,C`, 0xCB 0x71 (44_rotate_shift_bit.md R245). -/
def exec_bit_6_c (s : State) : Result := execute (bitRegCycles 6 .c) s

/-- `BIT 6,D`, 0xCB 0x72 (44_rotate_shift_bit.md R245). -/
def exec_bit_6_d (s : State) : Result := execute (bitRegCycles 6 .d) s

/-- `BIT 6,E`, 0xCB 0x73 (44_rotate_shift_bit.md R245). -/
def exec_bit_6_e (s : State) : Result := execute (bitRegCycles 6 .e) s

/-- `BIT 6,H`, 0xCB 0x74 (44_rotate_shift_bit.md R245). -/
def exec_bit_6_h (s : State) : Result := execute (bitRegCycles 6 .h) s

/-- `BIT 6,L`, 0xCB 0x75 (44_rotate_shift_bit.md R245). -/
def exec_bit_6_l (s : State) : Result := execute (bitRegCycles 6 .l) s

/-- `BIT 6,(HL)`, 0xCB 0x76 (44_rotate_shift_bit.md R245). -/
def exec_bit_6_mhl (s : State) : Result := execute (bitMemCycles 6) s

/-- `BIT 6,A`, 0xCB 0x77 (44_rotate_shift_bit.md R245). -/
def exec_bit_6_a (s : State) : Result := execute (bitRegCycles 6 .a) s

/-- `BIT 7,B`, 0xCB 0x78 (44_rotate_shift_bit.md R245). -/
def exec_bit_7_b (s : State) : Result := execute (bitRegCycles 7 .b) s

/-- `BIT 7,C`, 0xCB 0x79 (44_rotate_shift_bit.md R245). -/
def exec_bit_7_c (s : State) : Result := execute (bitRegCycles 7 .c) s

/-- `BIT 7,D`, 0xCB 0x7A (44_rotate_shift_bit.md R245). -/
def exec_bit_7_d (s : State) : Result := execute (bitRegCycles 7 .d) s

/-- `BIT 7,E`, 0xCB 0x7B (44_rotate_shift_bit.md R245). -/
def exec_bit_7_e (s : State) : Result := execute (bitRegCycles 7 .e) s

/-- `BIT 7,H`, 0xCB 0x7C (44_rotate_shift_bit.md R245). -/
def exec_bit_7_h (s : State) : Result := execute (bitRegCycles 7 .h) s

/-- `BIT 7,L`, 0xCB 0x7D (44_rotate_shift_bit.md R245). -/
def exec_bit_7_l (s : State) : Result := execute (bitRegCycles 7 .l) s

/-- `BIT 7,(HL)`, 0xCB 0x7E (44_rotate_shift_bit.md R245). -/
def exec_bit_7_mhl (s : State) : Result := execute (bitMemCycles 7) s

/-- `BIT 7,A`, 0xCB 0x7F (44_rotate_shift_bit.md R245). -/
def exec_bit_7_a (s : State) : Result := execute (bitRegCycles 7 .a) s

/-- `RES 0,B`, 0xCB 0x80 (44_rotate_shift_bit.md R246). -/
def exec_res_0_b (s : State) : Result := execute (resRegCycles 0 .b) s

/-- `RES 0,C`, 0xCB 0x81 (44_rotate_shift_bit.md R246). -/
def exec_res_0_c (s : State) : Result := execute (resRegCycles 0 .c) s

/-- `RES 0,D`, 0xCB 0x82 (44_rotate_shift_bit.md R246). -/
def exec_res_0_d (s : State) : Result := execute (resRegCycles 0 .d) s

/-- `RES 0,E`, 0xCB 0x83 (44_rotate_shift_bit.md R246). -/
def exec_res_0_e (s : State) : Result := execute (resRegCycles 0 .e) s

/-- `RES 0,H`, 0xCB 0x84 (44_rotate_shift_bit.md R246). -/
def exec_res_0_h (s : State) : Result := execute (resRegCycles 0 .h) s

/-- `RES 0,L`, 0xCB 0x85 (44_rotate_shift_bit.md R246). -/
def exec_res_0_l (s : State) : Result := execute (resRegCycles 0 .l) s

/-- `RES 0,(HL)`, 0xCB 0x86 (44_rotate_shift_bit.md R246). -/
def exec_res_0_mhl (s : State) : Result := execute (resMemCycles 0) s

/-- `RES 0,A`, 0xCB 0x87 (44_rotate_shift_bit.md R246). -/
def exec_res_0_a (s : State) : Result := execute (resRegCycles 0 .a) s

/-- `RES 1,B`, 0xCB 0x88 (44_rotate_shift_bit.md R246). -/
def exec_res_1_b (s : State) : Result := execute (resRegCycles 1 .b) s

/-- `RES 1,C`, 0xCB 0x89 (44_rotate_shift_bit.md R246). -/
def exec_res_1_c (s : State) : Result := execute (resRegCycles 1 .c) s

/-- `RES 1,D`, 0xCB 0x8A (44_rotate_shift_bit.md R246). -/
def exec_res_1_d (s : State) : Result := execute (resRegCycles 1 .d) s

/-- `RES 1,E`, 0xCB 0x8B (44_rotate_shift_bit.md R246). -/
def exec_res_1_e (s : State) : Result := execute (resRegCycles 1 .e) s

/-- `RES 1,H`, 0xCB 0x8C (44_rotate_shift_bit.md R246). -/
def exec_res_1_h (s : State) : Result := execute (resRegCycles 1 .h) s

/-- `RES 1,L`, 0xCB 0x8D (44_rotate_shift_bit.md R246). -/
def exec_res_1_l (s : State) : Result := execute (resRegCycles 1 .l) s

/-- `RES 1,(HL)`, 0xCB 0x8E (44_rotate_shift_bit.md R246). -/
def exec_res_1_mhl (s : State) : Result := execute (resMemCycles 1) s

/-- `RES 1,A`, 0xCB 0x8F (44_rotate_shift_bit.md R246). -/
def exec_res_1_a (s : State) : Result := execute (resRegCycles 1 .a) s

/-- `RES 2,B`, 0xCB 0x90 (44_rotate_shift_bit.md R246). -/
def exec_res_2_b (s : State) : Result := execute (resRegCycles 2 .b) s

/-- `RES 2,C`, 0xCB 0x91 (44_rotate_shift_bit.md R246). -/
def exec_res_2_c (s : State) : Result := execute (resRegCycles 2 .c) s

/-- `RES 2,D`, 0xCB 0x92 (44_rotate_shift_bit.md R246). -/
def exec_res_2_d (s : State) : Result := execute (resRegCycles 2 .d) s

/-- `RES 2,E`, 0xCB 0x93 (44_rotate_shift_bit.md R246). -/
def exec_res_2_e (s : State) : Result := execute (resRegCycles 2 .e) s

/-- `RES 2,H`, 0xCB 0x94 (44_rotate_shift_bit.md R246). -/
def exec_res_2_h (s : State) : Result := execute (resRegCycles 2 .h) s

/-- `RES 2,L`, 0xCB 0x95 (44_rotate_shift_bit.md R246). -/
def exec_res_2_l (s : State) : Result := execute (resRegCycles 2 .l) s

/-- `RES 2,(HL)`, 0xCB 0x96 (44_rotate_shift_bit.md R246). -/
def exec_res_2_mhl (s : State) : Result := execute (resMemCycles 2) s

/-- `RES 2,A`, 0xCB 0x97 (44_rotate_shift_bit.md R246). -/
def exec_res_2_a (s : State) : Result := execute (resRegCycles 2 .a) s

/-- `RES 3,B`, 0xCB 0x98 (44_rotate_shift_bit.md R246). -/
def exec_res_3_b (s : State) : Result := execute (resRegCycles 3 .b) s

/-- `RES 3,C`, 0xCB 0x99 (44_rotate_shift_bit.md R246). -/
def exec_res_3_c (s : State) : Result := execute (resRegCycles 3 .c) s

/-- `RES 3,D`, 0xCB 0x9A (44_rotate_shift_bit.md R246). -/
def exec_res_3_d (s : State) : Result := execute (resRegCycles 3 .d) s

/-- `RES 3,E`, 0xCB 0x9B (44_rotate_shift_bit.md R246). -/
def exec_res_3_e (s : State) : Result := execute (resRegCycles 3 .e) s

/-- `RES 3,H`, 0xCB 0x9C (44_rotate_shift_bit.md R246). -/
def exec_res_3_h (s : State) : Result := execute (resRegCycles 3 .h) s

/-- `RES 3,L`, 0xCB 0x9D (44_rotate_shift_bit.md R246). -/
def exec_res_3_l (s : State) : Result := execute (resRegCycles 3 .l) s

/-- `RES 3,(HL)`, 0xCB 0x9E (44_rotate_shift_bit.md R246). -/
def exec_res_3_mhl (s : State) : Result := execute (resMemCycles 3) s

/-- `RES 3,A`, 0xCB 0x9F (44_rotate_shift_bit.md R246). -/
def exec_res_3_a (s : State) : Result := execute (resRegCycles 3 .a) s

/-- `RES 4,B`, 0xCB 0xA0 (44_rotate_shift_bit.md R246). -/
def exec_res_4_b (s : State) : Result := execute (resRegCycles 4 .b) s

/-- `RES 4,C`, 0xCB 0xA1 (44_rotate_shift_bit.md R246). -/
def exec_res_4_c (s : State) : Result := execute (resRegCycles 4 .c) s

/-- `RES 4,D`, 0xCB 0xA2 (44_rotate_shift_bit.md R246). -/
def exec_res_4_d (s : State) : Result := execute (resRegCycles 4 .d) s

/-- `RES 4,E`, 0xCB 0xA3 (44_rotate_shift_bit.md R246). -/
def exec_res_4_e (s : State) : Result := execute (resRegCycles 4 .e) s

/-- `RES 4,H`, 0xCB 0xA4 (44_rotate_shift_bit.md R246). -/
def exec_res_4_h (s : State) : Result := execute (resRegCycles 4 .h) s

/-- `RES 4,L`, 0xCB 0xA5 (44_rotate_shift_bit.md R246). -/
def exec_res_4_l (s : State) : Result := execute (resRegCycles 4 .l) s

/-- `RES 4,(HL)`, 0xCB 0xA6 (44_rotate_shift_bit.md R246). -/
def exec_res_4_mhl (s : State) : Result := execute (resMemCycles 4) s

/-- `RES 4,A`, 0xCB 0xA7 (44_rotate_shift_bit.md R246). -/
def exec_res_4_a (s : State) : Result := execute (resRegCycles 4 .a) s

/-- `RES 5,B`, 0xCB 0xA8 (44_rotate_shift_bit.md R246). -/
def exec_res_5_b (s : State) : Result := execute (resRegCycles 5 .b) s

/-- `RES 5,C`, 0xCB 0xA9 (44_rotate_shift_bit.md R246). -/
def exec_res_5_c (s : State) : Result := execute (resRegCycles 5 .c) s

/-- `RES 5,D`, 0xCB 0xAA (44_rotate_shift_bit.md R246). -/
def exec_res_5_d (s : State) : Result := execute (resRegCycles 5 .d) s

/-- `RES 5,E`, 0xCB 0xAB (44_rotate_shift_bit.md R246). -/
def exec_res_5_e (s : State) : Result := execute (resRegCycles 5 .e) s

/-- `RES 5,H`, 0xCB 0xAC (44_rotate_shift_bit.md R246). -/
def exec_res_5_h (s : State) : Result := execute (resRegCycles 5 .h) s

/-- `RES 5,L`, 0xCB 0xAD (44_rotate_shift_bit.md R246). -/
def exec_res_5_l (s : State) : Result := execute (resRegCycles 5 .l) s

/-- `RES 5,(HL)`, 0xCB 0xAE (44_rotate_shift_bit.md R246). -/
def exec_res_5_mhl (s : State) : Result := execute (resMemCycles 5) s

/-- `RES 5,A`, 0xCB 0xAF (44_rotate_shift_bit.md R246). -/
def exec_res_5_a (s : State) : Result := execute (resRegCycles 5 .a) s

/-- `RES 6,B`, 0xCB 0xB0 (44_rotate_shift_bit.md R246). -/
def exec_res_6_b (s : State) : Result := execute (resRegCycles 6 .b) s

/-- `RES 6,C`, 0xCB 0xB1 (44_rotate_shift_bit.md R246). -/
def exec_res_6_c (s : State) : Result := execute (resRegCycles 6 .c) s

/-- `RES 6,D`, 0xCB 0xB2 (44_rotate_shift_bit.md R246). -/
def exec_res_6_d (s : State) : Result := execute (resRegCycles 6 .d) s

/-- `RES 6,E`, 0xCB 0xB3 (44_rotate_shift_bit.md R246). -/
def exec_res_6_e (s : State) : Result := execute (resRegCycles 6 .e) s

/-- `RES 6,H`, 0xCB 0xB4 (44_rotate_shift_bit.md R246). -/
def exec_res_6_h (s : State) : Result := execute (resRegCycles 6 .h) s

/-- `RES 6,L`, 0xCB 0xB5 (44_rotate_shift_bit.md R246). -/
def exec_res_6_l (s : State) : Result := execute (resRegCycles 6 .l) s

/-- `RES 6,(HL)`, 0xCB 0xB6 (44_rotate_shift_bit.md R246). -/
def exec_res_6_mhl (s : State) : Result := execute (resMemCycles 6) s

/-- `RES 6,A`, 0xCB 0xB7 (44_rotate_shift_bit.md R246). -/
def exec_res_6_a (s : State) : Result := execute (resRegCycles 6 .a) s

/-- `RES 7,B`, 0xCB 0xB8 (44_rotate_shift_bit.md R246). -/
def exec_res_7_b (s : State) : Result := execute (resRegCycles 7 .b) s

/-- `RES 7,C`, 0xCB 0xB9 (44_rotate_shift_bit.md R246). -/
def exec_res_7_c (s : State) : Result := execute (resRegCycles 7 .c) s

/-- `RES 7,D`, 0xCB 0xBA (44_rotate_shift_bit.md R246). -/
def exec_res_7_d (s : State) : Result := execute (resRegCycles 7 .d) s

/-- `RES 7,E`, 0xCB 0xBB (44_rotate_shift_bit.md R246). -/
def exec_res_7_e (s : State) : Result := execute (resRegCycles 7 .e) s

/-- `RES 7,H`, 0xCB 0xBC (44_rotate_shift_bit.md R246). -/
def exec_res_7_h (s : State) : Result := execute (resRegCycles 7 .h) s

/-- `RES 7,L`, 0xCB 0xBD (44_rotate_shift_bit.md R246). -/
def exec_res_7_l (s : State) : Result := execute (resRegCycles 7 .l) s

/-- `RES 7,(HL)`, 0xCB 0xBE (44_rotate_shift_bit.md R246). -/
def exec_res_7_mhl (s : State) : Result := execute (resMemCycles 7) s

/-- `RES 7,A`, 0xCB 0xBF (44_rotate_shift_bit.md R246). -/
def exec_res_7_a (s : State) : Result := execute (resRegCycles 7 .a) s

/-- `SET 0,B`, 0xCB 0xC0 (44_rotate_shift_bit.md R247). -/
def exec_set_0_b (s : State) : Result := execute (setRegCycles 0 .b) s

/-- `SET 0,C`, 0xCB 0xC1 (44_rotate_shift_bit.md R247). -/
def exec_set_0_c (s : State) : Result := execute (setRegCycles 0 .c) s

/-- `SET 0,D`, 0xCB 0xC2 (44_rotate_shift_bit.md R247). -/
def exec_set_0_d (s : State) : Result := execute (setRegCycles 0 .d) s

/-- `SET 0,E`, 0xCB 0xC3 (44_rotate_shift_bit.md R247). -/
def exec_set_0_e (s : State) : Result := execute (setRegCycles 0 .e) s

/-- `SET 0,H`, 0xCB 0xC4 (44_rotate_shift_bit.md R247). -/
def exec_set_0_h (s : State) : Result := execute (setRegCycles 0 .h) s

/-- `SET 0,L`, 0xCB 0xC5 (44_rotate_shift_bit.md R247). -/
def exec_set_0_l (s : State) : Result := execute (setRegCycles 0 .l) s

/-- `SET 0,(HL)`, 0xCB 0xC6 (44_rotate_shift_bit.md R247). -/
def exec_set_0_mhl (s : State) : Result := execute (setMemCycles 0) s

/-- `SET 0,A`, 0xCB 0xC7 (44_rotate_shift_bit.md R247). -/
def exec_set_0_a (s : State) : Result := execute (setRegCycles 0 .a) s

/-- `SET 1,B`, 0xCB 0xC8 (44_rotate_shift_bit.md R247). -/
def exec_set_1_b (s : State) : Result := execute (setRegCycles 1 .b) s

/-- `SET 1,C`, 0xCB 0xC9 (44_rotate_shift_bit.md R247). -/
def exec_set_1_c (s : State) : Result := execute (setRegCycles 1 .c) s

/-- `SET 1,D`, 0xCB 0xCA (44_rotate_shift_bit.md R247). -/
def exec_set_1_d (s : State) : Result := execute (setRegCycles 1 .d) s

/-- `SET 1,E`, 0xCB 0xCB (44_rotate_shift_bit.md R247). -/
def exec_set_1_e (s : State) : Result := execute (setRegCycles 1 .e) s

/-- `SET 1,H`, 0xCB 0xCC (44_rotate_shift_bit.md R247). -/
def exec_set_1_h (s : State) : Result := execute (setRegCycles 1 .h) s

/-- `SET 1,L`, 0xCB 0xCD (44_rotate_shift_bit.md R247). -/
def exec_set_1_l (s : State) : Result := execute (setRegCycles 1 .l) s

/-- `SET 1,(HL)`, 0xCB 0xCE (44_rotate_shift_bit.md R247). -/
def exec_set_1_mhl (s : State) : Result := execute (setMemCycles 1) s

/-- `SET 1,A`, 0xCB 0xCF (44_rotate_shift_bit.md R247). -/
def exec_set_1_a (s : State) : Result := execute (setRegCycles 1 .a) s

/-- `SET 2,B`, 0xCB 0xD0 (44_rotate_shift_bit.md R247). -/
def exec_set_2_b (s : State) : Result := execute (setRegCycles 2 .b) s

/-- `SET 2,C`, 0xCB 0xD1 (44_rotate_shift_bit.md R247). -/
def exec_set_2_c (s : State) : Result := execute (setRegCycles 2 .c) s

/-- `SET 2,D`, 0xCB 0xD2 (44_rotate_shift_bit.md R247). -/
def exec_set_2_d (s : State) : Result := execute (setRegCycles 2 .d) s

/-- `SET 2,E`, 0xCB 0xD3 (44_rotate_shift_bit.md R247). -/
def exec_set_2_e (s : State) : Result := execute (setRegCycles 2 .e) s

/-- `SET 2,H`, 0xCB 0xD4 (44_rotate_shift_bit.md R247). -/
def exec_set_2_h (s : State) : Result := execute (setRegCycles 2 .h) s

/-- `SET 2,L`, 0xCB 0xD5 (44_rotate_shift_bit.md R247). -/
def exec_set_2_l (s : State) : Result := execute (setRegCycles 2 .l) s

/-- `SET 2,(HL)`, 0xCB 0xD6 (44_rotate_shift_bit.md R247). -/
def exec_set_2_mhl (s : State) : Result := execute (setMemCycles 2) s

/-- `SET 2,A`, 0xCB 0xD7 (44_rotate_shift_bit.md R247). -/
def exec_set_2_a (s : State) : Result := execute (setRegCycles 2 .a) s

/-- `SET 3,B`, 0xCB 0xD8 (44_rotate_shift_bit.md R247). -/
def exec_set_3_b (s : State) : Result := execute (setRegCycles 3 .b) s

/-- `SET 3,C`, 0xCB 0xD9 (44_rotate_shift_bit.md R247). -/
def exec_set_3_c (s : State) : Result := execute (setRegCycles 3 .c) s

/-- `SET 3,D`, 0xCB 0xDA (44_rotate_shift_bit.md R247). -/
def exec_set_3_d (s : State) : Result := execute (setRegCycles 3 .d) s

/-- `SET 3,E`, 0xCB 0xDB (44_rotate_shift_bit.md R247). -/
def exec_set_3_e (s : State) : Result := execute (setRegCycles 3 .e) s

/-- `SET 3,H`, 0xCB 0xDC (44_rotate_shift_bit.md R247). -/
def exec_set_3_h (s : State) : Result := execute (setRegCycles 3 .h) s

/-- `SET 3,L`, 0xCB 0xDD (44_rotate_shift_bit.md R247). -/
def exec_set_3_l (s : State) : Result := execute (setRegCycles 3 .l) s

/-- `SET 3,(HL)`, 0xCB 0xDE (44_rotate_shift_bit.md R247). -/
def exec_set_3_mhl (s : State) : Result := execute (setMemCycles 3) s

/-- `SET 3,A`, 0xCB 0xDF (44_rotate_shift_bit.md R247). -/
def exec_set_3_a (s : State) : Result := execute (setRegCycles 3 .a) s

/-- `SET 4,B`, 0xCB 0xE0 (44_rotate_shift_bit.md R247). -/
def exec_set_4_b (s : State) : Result := execute (setRegCycles 4 .b) s

/-- `SET 4,C`, 0xCB 0xE1 (44_rotate_shift_bit.md R247). -/
def exec_set_4_c (s : State) : Result := execute (setRegCycles 4 .c) s

/-- `SET 4,D`, 0xCB 0xE2 (44_rotate_shift_bit.md R247). -/
def exec_set_4_d (s : State) : Result := execute (setRegCycles 4 .d) s

/-- `SET 4,E`, 0xCB 0xE3 (44_rotate_shift_bit.md R247). -/
def exec_set_4_e (s : State) : Result := execute (setRegCycles 4 .e) s

/-- `SET 4,H`, 0xCB 0xE4 (44_rotate_shift_bit.md R247). -/
def exec_set_4_h (s : State) : Result := execute (setRegCycles 4 .h) s

/-- `SET 4,L`, 0xCB 0xE5 (44_rotate_shift_bit.md R247). -/
def exec_set_4_l (s : State) : Result := execute (setRegCycles 4 .l) s

/-- `SET 4,(HL)`, 0xCB 0xE6 (44_rotate_shift_bit.md R247). -/
def exec_set_4_mhl (s : State) : Result := execute (setMemCycles 4) s

/-- `SET 4,A`, 0xCB 0xE7 (44_rotate_shift_bit.md R247). -/
def exec_set_4_a (s : State) : Result := execute (setRegCycles 4 .a) s

/-- `SET 5,B`, 0xCB 0xE8 (44_rotate_shift_bit.md R247). -/
def exec_set_5_b (s : State) : Result := execute (setRegCycles 5 .b) s

/-- `SET 5,C`, 0xCB 0xE9 (44_rotate_shift_bit.md R247). -/
def exec_set_5_c (s : State) : Result := execute (setRegCycles 5 .c) s

/-- `SET 5,D`, 0xCB 0xEA (44_rotate_shift_bit.md R247). -/
def exec_set_5_d (s : State) : Result := execute (setRegCycles 5 .d) s

/-- `SET 5,E`, 0xCB 0xEB (44_rotate_shift_bit.md R247). -/
def exec_set_5_e (s : State) : Result := execute (setRegCycles 5 .e) s

/-- `SET 5,H`, 0xCB 0xEC (44_rotate_shift_bit.md R247). -/
def exec_set_5_h (s : State) : Result := execute (setRegCycles 5 .h) s

/-- `SET 5,L`, 0xCB 0xED (44_rotate_shift_bit.md R247). -/
def exec_set_5_l (s : State) : Result := execute (setRegCycles 5 .l) s

/-- `SET 5,(HL)`, 0xCB 0xEE (44_rotate_shift_bit.md R247). -/
def exec_set_5_mhl (s : State) : Result := execute (setMemCycles 5) s

/-- `SET 5,A`, 0xCB 0xEF (44_rotate_shift_bit.md R247). -/
def exec_set_5_a (s : State) : Result := execute (setRegCycles 5 .a) s

/-- `SET 6,B`, 0xCB 0xF0 (44_rotate_shift_bit.md R247). -/
def exec_set_6_b (s : State) : Result := execute (setRegCycles 6 .b) s

/-- `SET 6,C`, 0xCB 0xF1 (44_rotate_shift_bit.md R247). -/
def exec_set_6_c (s : State) : Result := execute (setRegCycles 6 .c) s

/-- `SET 6,D`, 0xCB 0xF2 (44_rotate_shift_bit.md R247). -/
def exec_set_6_d (s : State) : Result := execute (setRegCycles 6 .d) s

/-- `SET 6,E`, 0xCB 0xF3 (44_rotate_shift_bit.md R247). -/
def exec_set_6_e (s : State) : Result := execute (setRegCycles 6 .e) s

/-- `SET 6,H`, 0xCB 0xF4 (44_rotate_shift_bit.md R247). -/
def exec_set_6_h (s : State) : Result := execute (setRegCycles 6 .h) s

/-- `SET 6,L`, 0xCB 0xF5 (44_rotate_shift_bit.md R247). -/
def exec_set_6_l (s : State) : Result := execute (setRegCycles 6 .l) s

/-- `SET 6,(HL)`, 0xCB 0xF6 (44_rotate_shift_bit.md R247). -/
def exec_set_6_mhl (s : State) : Result := execute (setMemCycles 6) s

/-- `SET 6,A`, 0xCB 0xF7 (44_rotate_shift_bit.md R247). -/
def exec_set_6_a (s : State) : Result := execute (setRegCycles 6 .a) s

/-- `SET 7,B`, 0xCB 0xF8 (44_rotate_shift_bit.md R247). -/
def exec_set_7_b (s : State) : Result := execute (setRegCycles 7 .b) s

/-- `SET 7,C`, 0xCB 0xF9 (44_rotate_shift_bit.md R247). -/
def exec_set_7_c (s : State) : Result := execute (setRegCycles 7 .c) s

/-- `SET 7,D`, 0xCB 0xFA (44_rotate_shift_bit.md R247). -/
def exec_set_7_d (s : State) : Result := execute (setRegCycles 7 .d) s

/-- `SET 7,E`, 0xCB 0xFB (44_rotate_shift_bit.md R247). -/
def exec_set_7_e (s : State) : Result := execute (setRegCycles 7 .e) s

/-- `SET 7,H`, 0xCB 0xFC (44_rotate_shift_bit.md R247). -/
def exec_set_7_h (s : State) : Result := execute (setRegCycles 7 .h) s

/-- `SET 7,L`, 0xCB 0xFD (44_rotate_shift_bit.md R247). -/
def exec_set_7_l (s : State) : Result := execute (setRegCycles 7 .l) s

/-- `SET 7,(HL)`, 0xCB 0xFE (44_rotate_shift_bit.md R247). -/
def exec_set_7_mhl (s : State) : Result := execute (setMemCycles 7) s

/-- `SET 7,A`, 0xCB 0xFF (44_rotate_shift_bit.md R247). -/
def exec_set_7_a (s : State) : Result := execute (setRegCycles 7 .a) s

end Sys2Proof.Machine
end

