-- ==== Sys2Proof/Machine/System.lean ====
section
/-! DEFINITION. System instructions and the undefined first bytes (46_system.md R280 to R288). Each takes one machine cycle
(R281). -/

namespace Sys2Proof.Machine

/-! ### The forms, each the machine cycles left after its operand bytes are read -/

/-- `NOP` (R280). -/
def nopCycles : List Cycle := [last fun s => s.advance 1]

/-- `HALT` (R282): PC stays at the HALT opcode. -/
def halt (s : State) : State :=
  { s.retire s.cpu.pc with cpu := { (s.retire s.cpu.pc).cpu with halted := true } }

/-- `HALT` (R282). -/
def haltCycles : List Cycle := [last halt]

/-- The undefined first bytes (R288): the machine's one exception. -/
def undefinedCycles (op : Byte) : List Cycle := [last (raiseUndefined op)]

/-- `STOP` (R283): by the parameter STOP_MODE a two-byte no-op or an undefined opcode. -/
def stop (s : State) : State :=
  match s.params.stopMode with
  | .nop2 => s.advance 2
  | .refuse => raiseUndefined 0x10 s

/-- `STOP` (R283). -/
def stopCycles : List Cycle := [last stop]

/-- `DI` (R284): IME is cleared at once; the `di` latch is not set. -/
def disableInterrupts (s : State) : State :=
  { s.advance 1 with cpu := { (s.advance 1).cpu with ime := false } }

/-- `DI` (R284). -/
def diCycles : List Cycle := [last disableInterrupts]

/-- `EI` (R285): the pass-through is created with `ei = 1`; IME is not written by EI itself. -/
def armInterrupts (s : State) : State :=
  { s.advance 1 with cpu := { (s.advance 1).cpu with ei := true } }

/-- `EI` (R285). -/
def eiCycles : List Cycle := [last armInterrupts]

/-! ### The meanings, one definition per row of the opcode table -/

/-- `NOP`, 0x00 (46_system.md R280). -/
def exec_nop (s : State) : Result := execute (nopCycles) s

/-- `STOP`, 0x10 (46_system.md R283). -/
def exec_stop (s : State) : Result := execute (stopCycles) s

/-- `HALT`, 0x76 (46_system.md R282). -/
def exec_halt (s : State) : Result := execute (haltCycles) s

/-- `undefined byte`, 0xD3 (46_system.md R288). -/
def exec_illegal_d3 (s : State) : Result := execute (undefinedCycles 0xD3) s

/-- `undefined byte`, 0xDB (46_system.md R288). -/
def exec_illegal_db (s : State) : Result := execute (undefinedCycles 0xDB) s

/-- `undefined byte`, 0xDD (46_system.md R288). -/
def exec_illegal_dd (s : State) : Result := execute (undefinedCycles 0xDD) s

/-- `undefined byte`, 0xE3 (46_system.md R288). -/
def exec_illegal_e3 (s : State) : Result := execute (undefinedCycles 0xE3) s

/-- `undefined byte`, 0xE4 (46_system.md R288). -/
def exec_illegal_e4 (s : State) : Result := execute (undefinedCycles 0xE4) s

/-- `undefined byte`, 0xEB (46_system.md R288). -/
def exec_illegal_eb (s : State) : Result := execute (undefinedCycles 0xEB) s

/-- `undefined byte`, 0xEC (46_system.md R288). -/
def exec_illegal_ec (s : State) : Result := execute (undefinedCycles 0xEC) s

/-- `undefined byte`, 0xED (46_system.md R288). -/
def exec_illegal_ed (s : State) : Result := execute (undefinedCycles 0xED) s

/-- `DI`, 0xF3 (46_system.md R284). -/
def exec_di (s : State) : Result := execute (diCycles) s

/-- `undefined byte`, 0xF4 (46_system.md R288). -/
def exec_illegal_f4 (s : State) : Result := execute (undefinedCycles 0xF4) s

/-- `EI`, 0xFB (46_system.md R285). -/
def exec_ei (s : State) : Result := execute (eiCycles) s

/-- `undefined byte`, 0xFC (46_system.md R288). -/
def exec_illegal_fc (s : State) : Result := execute (undefinedCycles 0xFC) s

/-- `undefined byte`, 0xFD (46_system.md R288). -/
def exec_illegal_fd (s : State) : Result := execute (undefinedCycles 0xFD) s

end Sys2Proof.Machine
end

