-- ==== Sys2Proof/Machine/Fetch.lean ====
section
/-! DEFINITION. The instruction boundary and the fetch: halt wake, interrupt check, latches, opcode byte, operand bytes
(60_exceptions.md R357, R360), and the placing of an instruction where the next fetch reads it. -/

namespace Sys2Proof.Machine

/-! ### The instruction boundary (60_exceptions.md R360) -/

/-- What an instruction boundary does with its machine cycle. -/
inductive Boundary where
  /-- The CPU is still halted: no bus access, nothing changes. -/
  | asleep
  /-- The dispatch of a source starts. -/
  | dispatch (k : Source) (s : State)
  /-- The opcode byte is fetched. -/
  | fetch (s : State)

/-- The halt wake: PC steps over the HALT opcode. -/
def wake (s : State) : State := { s with cpu := { s.cpu with halted := false, pc := s.cpu.pc + 1 } }

/-- The halt wake, if the CPU is halted. -/
def wakeIfHalted (s : State) : State := if s.cpu.halted then wake s else s

/-- `if ei == 1: IME <- 1; ei <- 0` (46_system.md R285). -/
def applyEi (s : State) : State := if s.cpu.ei then { s with cpu := { s.cpu with ime := true, ei := false } } else s

/-- `if di == 1: IME <- 0; di <- 0` (10_state.md R32). -/
def applyDi (s : State) : State := if s.cpu.di then { s with cpu := { s.cpu with ime := false, di := false } } else s

/-- The source the interrupt check serves, if any (60_exceptions.md R357). -/
def State.servedSource (s : State) : Option Source := if s.cpu.ime then lowestSource s.pending else none

/-- The decision of an instruction boundary, in the order of 60_exceptions.md R360. -/
def boundary (s : State) : Boundary :=
  if s.cpu.halted && s.pending == 0 then .asleep
  else
    match (wakeIfHalted s).servedSource with
    | some k => .dispatch k (wakeIfHalted s)
    | none => .fetch (applyDi (applyEi (wakeIfHalted s)))

/-! ### The fetch -/

/-- `IR <- MemRead(PC, 1)`, the cycle F. -/
def fetchOpcode (s : State) : State := { s with cpu := { s.cpu with ir := .opcode (memRead s s.cpu.pc) } }

/-- The read of the first operand byte, at `pc+1`, into `d8` (30_encoding.md R113 to R115). -/
def readOperand1 (s : State) : State := s.setD8 (memRead s (s.cpu.pc + 1))

/-- The read of the second operand byte, at `pc+2`: the 16-bit immediate into `d16` (30_encoding.md R114). -/
def readOperand2 (s : State) : State := s.setD16 (joinBytes (memRead s (s.cpu.pc + 2)) s.cpu.d8)

/-- The read of operand byte `k`, 1 or 2. -/
def readOperand (k : Nat) : State → State := if k = 1 then readOperand1 else readOperand2

/-- The opcode byte in IR; 0x00 while a dispatch is in progress, where nothing asks for it. -/
def InstrLatch.byte : InstrLatch → Byte
  | .opcode op => op
  | .int _ => 0x00

/-- The instruction whose bytes IR and the pass-through hold. -/
def State.latched (s : State) : Instr := instrOf s.cpu.ir.byte s.cpu.d8 s.cpu.d16

/-- The machine cycles that read operand bytes, each after the end of the cycle before it. -/
def readOperands : Nat → State → State
  | 0, s => s
  | 1, s => readOperand1 (between s)
  | _ + 2, s => readOperand2 (between (readOperand1 (between s)))

/-- The fetch of a whole instruction: the state at the CPU's part of the machine cycle that read its last byte. -/
def fetched (s : State) : State := readOperands (operandReads (memRead s s.cpu.pc)) (fetchOpcode s)

/-! ### Placing an instruction for the next fetch (log 9) -/

/-- An address whose byte can be placed and stays where it is until the CPU reads it: ROM and the RAM regions. -/
def placeable (a : Word) : Bool :=
  match regionOf a with
  | .rom => true
  | .vram => false
  | .ram _ => true
  | .oam => false
  | .unmapped => false
  | .io _ => false
  | .ie => false

/-- A byte placed where a read of the address finds it. -/
def placeByte (s : State) (a : Word) (v : Byte) : State :=
  match regionOf a with
  | .rom =>
    if a.toNat ≤ 0x00FF ∧ s.bus.bootOff = false then { s with bootRom := s.bootRom.write a.toNat v }
    else { s with cartRom := s.cartRom.write a.toNat v }
  | .ram key => { s with mem := s.mem.write key v }
  | .vram => s
  | .oam => s
  | .unmapped => s
  | .io _ => s
  | .ie => s

/-- Bytes placed at consecutive addresses. -/
def placeBytes (s : State) (a : Word) : List Byte → State
  | [] => s
  | v :: vs => placeBytes (placeByte s a v) (a + 1) vs

/-- The three bytes at an address can be placed. -/
def placeable3 (a : Word) : Bool := placeable a && placeable (a + 1) && placeable (a + 2)

/-- The CPU made ready to fetch at an address where bytes can be placed: at PC if it is such an address, else at the start
of working RAM; not fatal, not halted, at an instruction boundary, and IME clear if the interrupt check would serve a
source. -/
def readyToFetch (s : State) : State :=
  { s with
    cpu := { s.cpu with
      fatal := none
      halted := false
      stage := 0
      pc := if placeable3 s.cpu.pc then s.cpu.pc else 0xC000
      ime := s.cpu.ime && s.pending == 0 } }

end Sys2Proof.Machine
end

