-- ==== Sys2Proof/Machine/Schedule.lean ====
section
/-! DEFINITION. The schedule of every instruction: the CPU's parts of the machine cycles left after its operand bytes are
read, for the one-cycle step `systemStep`; and the number of machine cycles the opcode table lists (70_reset_and_hazards.md
R421), against which the schedules can be checked. -/

namespace Sys2Proof.Machine

/-- The machine cycles of an instruction, from the one that reads its last byte on (00_scope.md R12). -/
def cyclesOf : Instr → List Cycle
  | .nop => nopCycles
  | .ld_bc_nn nn => ldPairImmCycles .bc nn
  | .ld_mbc_a => ldPairACycles .bc
  | .inc_bc => incPairCycles .bc
  | .inc_b => incRegCycles .b
  | .dec_b => decRegCycles .b
  | .ld_b_n n => ldRegImmCycles .b n
  | .rlca => accRotateCycles .rlc
  | .ld_mnn_sp nn => ldAbsSpCycles nn
  | .add_hl_bc => addHlCycles .bc
  | .ld_a_mbc => ldAPairCycles .bc
  | .dec_bc => decPairCycles .bc
  | .inc_c => incRegCycles .c
  | .dec_c => decRegCycles .c
  | .ld_c_n n => ldRegImmCycles .c n
  | .rrca => accRotateCycles .rrc
  | .stop => stopCycles
  | .ld_de_nn nn => ldPairImmCycles .de nn
  | .ld_mde_a => ldPairACycles .de
  | .inc_de => incPairCycles .de
  | .inc_d => incRegCycles .d
  | .dec_d => decRegCycles .d
  | .ld_d_n n => ldRegImmCycles .d n
  | .rla => accRotateCycles .rl
  | .jr_e e => jrCycles e
  | .add_hl_de => addHlCycles .de
  | .ld_a_mde => ldAPairCycles .de
  | .dec_de => decPairCycles .de
  | .inc_e => incRegCycles .e
  | .dec_e => decRegCycles .e
  | .ld_e_n n => ldRegImmCycles .e n
  | .rra => accRotateCycles .rr
  | .jr_nz_e e => jrCondCycles .nz e
  | .ld_hl_nn nn => ldPairImmCycles .hl nn
  | .ld_mhli_a => ldHlStepACycles 1
  | .inc_hl => incPairCycles .hl
  | .inc_h => incRegCycles .h
  | .dec_h => decRegCycles .h
  | .ld_h_n n => ldRegImmCycles .h n
  | .daa => daaCycles
  | .jr_z_e e => jrCondCycles .z e
  | .add_hl_hl => addHlCycles .hl
  | .ld_a_mhli => ldAHlStepCycles 1
  | .dec_hl => decPairCycles .hl
  | .inc_l => incRegCycles .l
  | .dec_l => decRegCycles .l
  | .ld_l_n n => ldRegImmCycles .l n
  | .cpl => cplCycles
  | .jr_nc_e e => jrCondCycles .nc e
  | .ld_sp_nn nn => ldPairImmCycles .sp nn
  | .ld_mhld_a => ldHlStepACycles (-1)
  | .inc_sp => incPairCycles .sp
  | .inc_mhl => incMemCycles
  | .dec_mhl => decMemCycles
  | .ld_mhl_n n => ldMemImmCycles n
  | .scf => scfCycles
  | .jr_c_e e => jrCondCycles .c e
  | .add_hl_sp => addHlCycles .sp
  | .ld_a_mhld => ldAHlStepCycles (-1)
  | .dec_sp => decPairCycles .sp
  | .inc_a => incRegCycles .a
  | .dec_a => decRegCycles .a
  | .ld_a_n n => ldRegImmCycles .a n
  | .ccf => ccfCycles
  | .ld_b_b => ldRegRegCycles .b .b
  | .ld_b_c => ldRegRegCycles .b .c
  | .ld_b_d => ldRegRegCycles .b .d
  | .ld_b_e => ldRegRegCycles .b .e
  | .ld_b_h => ldRegRegCycles .b .h
  | .ld_b_l => ldRegRegCycles .b .l
  | .ld_b_mhl => ldRegMemCycles .b
  | .ld_b_a => ldRegRegCycles .b .a
  | .ld_c_b => ldRegRegCycles .c .b
  | .ld_c_c => ldRegRegCycles .c .c
  | .ld_c_d => ldRegRegCycles .c .d
  | .ld_c_e => ldRegRegCycles .c .e
  | .ld_c_h => ldRegRegCycles .c .h
  | .ld_c_l => ldRegRegCycles .c .l
  | .ld_c_mhl => ldRegMemCycles .c
  | .ld_c_a => ldRegRegCycles .c .a
  | .ld_d_b => ldRegRegCycles .d .b
  | .ld_d_c => ldRegRegCycles .d .c
  | .ld_d_d => ldRegRegCycles .d .d
  | .ld_d_e => ldRegRegCycles .d .e
  | .ld_d_h => ldRegRegCycles .d .h
  | .ld_d_l => ldRegRegCycles .d .l
  | .ld_d_mhl => ldRegMemCycles .d
  | .ld_d_a => ldRegRegCycles .d .a
  | .ld_e_b => ldRegRegCycles .e .b
  | .ld_e_c => ldRegRegCycles .e .c
  | .ld_e_d => ldRegRegCycles .e .d
  | .ld_e_e => ldRegRegCycles .e .e
  | .ld_e_h => ldRegRegCycles .e .h
  | .ld_e_l => ldRegRegCycles .e .l
  | .ld_e_mhl => ldRegMemCycles .e
  | .ld_e_a => ldRegRegCycles .e .a
  | .ld_h_b => ldRegRegCycles .h .b
  | .ld_h_c => ldRegRegCycles .h .c
  | .ld_h_d => ldRegRegCycles .h .d
  | .ld_h_e => ldRegRegCycles .h .e
  | .ld_h_h => ldRegRegCycles .h .h
  | .ld_h_l => ldRegRegCycles .h .l
  | .ld_h_mhl => ldRegMemCycles .h
  | .ld_h_a => ldRegRegCycles .h .a
  | .ld_l_b => ldRegRegCycles .l .b
  | .ld_l_c => ldRegRegCycles .l .c
  | .ld_l_d => ldRegRegCycles .l .d
  | .ld_l_e => ldRegRegCycles .l .e
  | .ld_l_h => ldRegRegCycles .l .h
  | .ld_l_l => ldRegRegCycles .l .l
  | .ld_l_mhl => ldRegMemCycles .l
  | .ld_l_a => ldRegRegCycles .l .a
  | .ld_mhl_b => ldMemRegCycles .b
  | .ld_mhl_c => ldMemRegCycles .c
  | .ld_mhl_d => ldMemRegCycles .d
  | .ld_mhl_e => ldMemRegCycles .e
  | .ld_mhl_h => ldMemRegCycles .h
  | .ld_mhl_l => ldMemRegCycles .l
  | .halt => haltCycles
  | .ld_mhl_a => ldMemRegCycles .a
  | .ld_a_b => ldRegRegCycles .a .b
  | .ld_a_c => ldRegRegCycles .a .c
  | .ld_a_d => ldRegRegCycles .a .d
  | .ld_a_e => ldRegRegCycles .a .e
  | .ld_a_h => ldRegRegCycles .a .h
  | .ld_a_l => ldRegRegCycles .a .l
  | .ld_a_mhl => ldRegMemCycles .a
  | .ld_a_a => ldRegRegCycles .a .a
  | .add_a_b => aluRegCycles .add .b
  | .add_a_c => aluRegCycles .add .c
  | .add_a_d => aluRegCycles .add .d
  | .add_a_e => aluRegCycles .add .e
  | .add_a_h => aluRegCycles .add .h
  | .add_a_l => aluRegCycles .add .l
  | .add_a_mhl => aluMemCycles .add
  | .add_a_a => aluRegCycles .add .a
  | .adc_a_b => aluRegCycles .adc .b
  | .adc_a_c => aluRegCycles .adc .c
  | .adc_a_d => aluRegCycles .adc .d
  | .adc_a_e => aluRegCycles .adc .e
  | .adc_a_h => aluRegCycles .adc .h
  | .adc_a_l => aluRegCycles .adc .l
  | .adc_a_mhl => aluMemCycles .adc
  | .adc_a_a => aluRegCycles .adc .a
  | .sub_b => aluRegCycles .sub .b
  | .sub_c => aluRegCycles .sub .c
  | .sub_d => aluRegCycles .sub .d
  | .sub_e => aluRegCycles .sub .e
  | .sub_h => aluRegCycles .sub .h
  | .sub_l => aluRegCycles .sub .l
  | .sub_mhl => aluMemCycles .sub
  | .sub_a => aluRegCycles .sub .a
  | .sbc_a_b => aluRegCycles .sbc .b
  | .sbc_a_c => aluRegCycles .sbc .c
  | .sbc_a_d => aluRegCycles .sbc .d
  | .sbc_a_e => aluRegCycles .sbc .e
  | .sbc_a_h => aluRegCycles .sbc .h
  | .sbc_a_l => aluRegCycles .sbc .l
  | .sbc_a_mhl => aluMemCycles .sbc
  | .sbc_a_a => aluRegCycles .sbc .a
  | .and_b => aluRegCycles .and .b
  | .and_c => aluRegCycles .and .c
  | .and_d => aluRegCycles .and .d
  | .and_e => aluRegCycles .and .e
  | .and_h => aluRegCycles .and .h
  | .and_l => aluRegCycles .and .l
  | .and_mhl => aluMemCycles .and
  | .and_a => aluRegCycles .and .a
  | .xor_b => aluRegCycles .xor .b
  | .xor_c => aluRegCycles .xor .c
  | .xor_d => aluRegCycles .xor .d
  | .xor_e => aluRegCycles .xor .e
  | .xor_h => aluRegCycles .xor .h
  | .xor_l => aluRegCycles .xor .l
  | .xor_mhl => aluMemCycles .xor
  | .xor_a => aluRegCycles .xor .a
  | .or_b => aluRegCycles .or .b
  | .or_c => aluRegCycles .or .c
  | .or_d => aluRegCycles .or .d
  | .or_e => aluRegCycles .or .e
  | .or_h => aluRegCycles .or .h
  | .or_l => aluRegCycles .or .l
  | .or_mhl => aluMemCycles .or
  | .or_a => aluRegCycles .or .a
  | .cp_b => aluRegCycles .cp .b
  | .cp_c => aluRegCycles .cp .c
  | .cp_d => aluRegCycles .cp .d
  | .cp_e => aluRegCycles .cp .e
  | .cp_h => aluRegCycles .cp .h
  | .cp_l => aluRegCycles .cp .l
  | .cp_mhl => aluMemCycles .cp
  | .cp_a => aluRegCycles .cp .a
  | .ret_nz => retCondCycles .nz
  | .pop_bc => popCycles .bc
  | .jp_nz_nn nn => jpCondCycles .nz nn
  | .jp_nn nn => jpCycles nn
  | .call_nz_nn nn => callCondCycles .nz nn
  | .push_bc => pushCycles .bc
  | .add_a_n n => aluImmCycles .add n
  | .rst_00 => rstCycles 0
  | .ret_z => retCondCycles .z
  | .ret => retCycles
  | .jp_z_nn nn => jpCondCycles .z nn
  | .call_z_nn nn => callCondCycles .z nn
  | .call_nn nn => callCycles nn
  | .adc_a_n n => aluImmCycles .adc n
  | .rst_08 => rstCycles 1
  | .ret_nc => retCondCycles .nc
  | .pop_de => popCycles .de
  | .jp_nc_nn nn => jpCondCycles .nc nn
  | .call_nc_nn nn => callCondCycles .nc nn
  | .push_de => pushCycles .de
  | .sub_n n => aluImmCycles .sub n
  | .rst_10 => rstCycles 2
  | .ret_c => retCondCycles .c
  | .reti => retiCycles
  | .jp_c_nn nn => jpCondCycles .c nn
  | .call_c_nn nn => callCondCycles .c nn
  | .sbc_a_n n => aluImmCycles .sbc n
  | .rst_18 => rstCycles 3
  | .ldh_mn_a n => ldhImmACycles n
  | .pop_hl => popCycles .hl
  | .ldh_mc_a => ldhCACycles
  | .push_hl => pushCycles .hl
  | .and_n n => aluImmCycles .and n
  | .rst_20 => rstCycles 4
  | .add_sp_e e => addSpCycles e
  | .jp_hl => jpHlCycles
  | .ld_mnn_a nn => ldAbsACycles nn
  | .xor_n n => aluImmCycles .xor n
  | .rst_28 => rstCycles 5
  | .ldh_a_mn n => ldhAImmCycles n
  | .pop_af => popCycles .af
  | .ldh_a_mc => ldhACCycles
  | .di => diCycles
  | .push_af => pushCycles .af
  | .or_n n => aluImmCycles .or n
  | .rst_30 => rstCycles 6
  | .ld_hl_sp_e e => ldHlSpCycles e
  | .ld_sp_hl => ldSpHlCycles
  | .ld_a_mnn nn => ldAAbsCycles nn
  | .ei => eiCycles
  | .cp_n n => aluImmCycles .cp n
  | .rst_38 => rstCycles 7
  | .rlc_b => shiftRegCycles .rlc .b
  | .rlc_c => shiftRegCycles .rlc .c
  | .rlc_d => shiftRegCycles .rlc .d
  | .rlc_e => shiftRegCycles .rlc .e
  | .rlc_h => shiftRegCycles .rlc .h
  | .rlc_l => shiftRegCycles .rlc .l
  | .rlc_mhl => shiftMemCycles .rlc
  | .rlc_a => shiftRegCycles .rlc .a
  | .rrc_b => shiftRegCycles .rrc .b
  | .rrc_c => shiftRegCycles .rrc .c
  | .rrc_d => shiftRegCycles .rrc .d
  | .rrc_e => shiftRegCycles .rrc .e
  | .rrc_h => shiftRegCycles .rrc .h
  | .rrc_l => shiftRegCycles .rrc .l
  | .rrc_mhl => shiftMemCycles .rrc
  | .rrc_a => shiftRegCycles .rrc .a
  | .rl_b => shiftRegCycles .rl .b
  | .rl_c => shiftRegCycles .rl .c
  | .rl_d => shiftRegCycles .rl .d
  | .rl_e => shiftRegCycles .rl .e
  | .rl_h => shiftRegCycles .rl .h
  | .rl_l => shiftRegCycles .rl .l
  | .rl_mhl => shiftMemCycles .rl
  | .rl_a => shiftRegCycles .rl .a
  | .rr_b => shiftRegCycles .rr .b
  | .rr_c => shiftRegCycles .rr .c
  | .rr_d => shiftRegCycles .rr .d
  | .rr_e => shiftRegCycles .rr .e
  | .rr_h => shiftRegCycles .rr .h
  | .rr_l => shiftRegCycles .rr .l
  | .rr_mhl => shiftMemCycles .rr
  | .rr_a => shiftRegCycles .rr .a
  | .sla_b => shiftRegCycles .sla .b
  | .sla_c => shiftRegCycles .sla .c
  | .sla_d => shiftRegCycles .sla .d
  | .sla_e => shiftRegCycles .sla .e
  | .sla_h => shiftRegCycles .sla .h
  | .sla_l => shiftRegCycles .sla .l
  | .sla_mhl => shiftMemCycles .sla
  | .sla_a => shiftRegCycles .sla .a
  | .sra_b => shiftRegCycles .sra .b
  | .sra_c => shiftRegCycles .sra .c
  | .sra_d => shiftRegCycles .sra .d
  | .sra_e => shiftRegCycles .sra .e
  | .sra_h => shiftRegCycles .sra .h
  | .sra_l => shiftRegCycles .sra .l
  | .sra_mhl => shiftMemCycles .sra
  | .sra_a => shiftRegCycles .sra .a
  | .swap_b => shiftRegCycles .swap .b
  | .swap_c => shiftRegCycles .swap .c
  | .swap_d => shiftRegCycles .swap .d
  | .swap_e => shiftRegCycles .swap .e
  | .swap_h => shiftRegCycles .swap .h
  | .swap_l => shiftRegCycles .swap .l
  | .swap_mhl => shiftMemCycles .swap
  | .swap_a => shiftRegCycles .swap .a
  | .srl_b => shiftRegCycles .srl .b
  | .srl_c => shiftRegCycles .srl .c
  | .srl_d => shiftRegCycles .srl .d
  | .srl_e => shiftRegCycles .srl .e
  | .srl_h => shiftRegCycles .srl .h
  | .srl_l => shiftRegCycles .srl .l
  | .srl_mhl => shiftMemCycles .srl
  | .srl_a => shiftRegCycles .srl .a
  | .bit_0_b => bitRegCycles 0 .b
  | .bit_0_c => bitRegCycles 0 .c
  | .bit_0_d => bitRegCycles 0 .d
  | .bit_0_e => bitRegCycles 0 .e
  | .bit_0_h => bitRegCycles 0 .h
  | .bit_0_l => bitRegCycles 0 .l
  | .bit_0_mhl => bitMemCycles 0
  | .bit_0_a => bitRegCycles 0 .a
  | .bit_1_b => bitRegCycles 1 .b
  | .bit_1_c => bitRegCycles 1 .c
  | .bit_1_d => bitRegCycles 1 .d
  | .bit_1_e => bitRegCycles 1 .e
  | .bit_1_h => bitRegCycles 1 .h
  | .bit_1_l => bitRegCycles 1 .l
  | .bit_1_mhl => bitMemCycles 1
  | .bit_1_a => bitRegCycles 1 .a
  | .bit_2_b => bitRegCycles 2 .b
  | .bit_2_c => bitRegCycles 2 .c
  | .bit_2_d => bitRegCycles 2 .d
  | .bit_2_e => bitRegCycles 2 .e
  | .bit_2_h => bitRegCycles 2 .h
  | .bit_2_l => bitRegCycles 2 .l
  | .bit_2_mhl => bitMemCycles 2
  | .bit_2_a => bitRegCycles 2 .a
  | .bit_3_b => bitRegCycles 3 .b
  | .bit_3_c => bitRegCycles 3 .c
  | .bit_3_d => bitRegCycles 3 .d
  | .bit_3_e => bitRegCycles 3 .e
  | .bit_3_h => bitRegCycles 3 .h
  | .bit_3_l => bitRegCycles 3 .l
  | .bit_3_mhl => bitMemCycles 3
  | .bit_3_a => bitRegCycles 3 .a
  | .bit_4_b => bitRegCycles 4 .b
  | .bit_4_c => bitRegCycles 4 .c
  | .bit_4_d => bitRegCycles 4 .d
  | .bit_4_e => bitRegCycles 4 .e
  | .bit_4_h => bitRegCycles 4 .h
  | .bit_4_l => bitRegCycles 4 .l
  | .bit_4_mhl => bitMemCycles 4
  | .bit_4_a => bitRegCycles 4 .a
  | .bit_5_b => bitRegCycles 5 .b
  | .bit_5_c => bitRegCycles 5 .c
  | .bit_5_d => bitRegCycles 5 .d
  | .bit_5_e => bitRegCycles 5 .e
  | .bit_5_h => bitRegCycles 5 .h
  | .bit_5_l => bitRegCycles 5 .l
  | .bit_5_mhl => bitMemCycles 5
  | .bit_5_a => bitRegCycles 5 .a
  | .bit_6_b => bitRegCycles 6 .b
  | .bit_6_c => bitRegCycles 6 .c
  | .bit_6_d => bitRegCycles 6 .d
  | .bit_6_e => bitRegCycles 6 .e
  | .bit_6_h => bitRegCycles 6 .h
  | .bit_6_l => bitRegCycles 6 .l
  | .bit_6_mhl => bitMemCycles 6
  | .bit_6_a => bitRegCycles 6 .a
  | .bit_7_b => bitRegCycles 7 .b
  | .bit_7_c => bitRegCycles 7 .c
  | .bit_7_d => bitRegCycles 7 .d
  | .bit_7_e => bitRegCycles 7 .e
  | .bit_7_h => bitRegCycles 7 .h
  | .bit_7_l => bitRegCycles 7 .l
  | .bit_7_mhl => bitMemCycles 7
  | .bit_7_a => bitRegCycles 7 .a
  | .res_0_b => resRegCycles 0 .b
  | .res_0_c => resRegCycles 0 .c
  | .res_0_d => resRegCycles 0 .d
  | .res_0_e => resRegCycles 0 .e
  | .res_0_h => resRegCycles 0 .h
  | .res_0_l => resRegCycles 0 .l
  | .res_0_mhl => resMemCycles 0
  | .res_0_a => resRegCycles 0 .a
  | .res_1_b => resRegCycles 1 .b
  | .res_1_c => resRegCycles 1 .c
  | .res_1_d => resRegCycles 1 .d
  | .res_1_e => resRegCycles 1 .e
  | .res_1_h => resRegCycles 1 .h
  | .res_1_l => resRegCycles 1 .l
  | .res_1_mhl => resMemCycles 1
  | .res_1_a => resRegCycles 1 .a
  | .res_2_b => resRegCycles 2 .b
  | .res_2_c => resRegCycles 2 .c
  | .res_2_d => resRegCycles 2 .d
  | .res_2_e => resRegCycles 2 .e
  | .res_2_h => resRegCycles 2 .h
  | .res_2_l => resRegCycles 2 .l
  | .res_2_mhl => resMemCycles 2
  | .res_2_a => resRegCycles 2 .a
  | .res_3_b => resRegCycles 3 .b
  | .res_3_c => resRegCycles 3 .c
  | .res_3_d => resRegCycles 3 .d
  | .res_3_e => resRegCycles 3 .e
  | .res_3_h => resRegCycles 3 .h
  | .res_3_l => resRegCycles 3 .l
  | .res_3_mhl => resMemCycles 3
  | .res_3_a => resRegCycles 3 .a
  | .res_4_b => resRegCycles 4 .b
  | .res_4_c => resRegCycles 4 .c
  | .res_4_d => resRegCycles 4 .d
  | .res_4_e => resRegCycles 4 .e
  | .res_4_h => resRegCycles 4 .h
  | .res_4_l => resRegCycles 4 .l
  | .res_4_mhl => resMemCycles 4
  | .res_4_a => resRegCycles 4 .a
  | .res_5_b => resRegCycles 5 .b
  | .res_5_c => resRegCycles 5 .c
  | .res_5_d => resRegCycles 5 .d
  | .res_5_e => resRegCycles 5 .e
  | .res_5_h => resRegCycles 5 .h
  | .res_5_l => resRegCycles 5 .l
  | .res_5_mhl => resMemCycles 5
  | .res_5_a => resRegCycles 5 .a
  | .res_6_b => resRegCycles 6 .b
  | .res_6_c => resRegCycles 6 .c
  | .res_6_d => resRegCycles 6 .d
  | .res_6_e => resRegCycles 6 .e
  | .res_6_h => resRegCycles 6 .h
  | .res_6_l => resRegCycles 6 .l
  | .res_6_mhl => resMemCycles 6
  | .res_6_a => resRegCycles 6 .a
  | .res_7_b => resRegCycles 7 .b
  | .res_7_c => resRegCycles 7 .c
  | .res_7_d => resRegCycles 7 .d
  | .res_7_e => resRegCycles 7 .e
  | .res_7_h => resRegCycles 7 .h
  | .res_7_l => resRegCycles 7 .l
  | .res_7_mhl => resMemCycles 7
  | .res_7_a => resRegCycles 7 .a
  | .set_0_b => setRegCycles 0 .b
  | .set_0_c => setRegCycles 0 .c
  | .set_0_d => setRegCycles 0 .d
  | .set_0_e => setRegCycles 0 .e
  | .set_0_h => setRegCycles 0 .h
  | .set_0_l => setRegCycles 0 .l
  | .set_0_mhl => setMemCycles 0
  | .set_0_a => setRegCycles 0 .a
  | .set_1_b => setRegCycles 1 .b
  | .set_1_c => setRegCycles 1 .c
  | .set_1_d => setRegCycles 1 .d
  | .set_1_e => setRegCycles 1 .e
  | .set_1_h => setRegCycles 1 .h
  | .set_1_l => setRegCycles 1 .l
  | .set_1_mhl => setMemCycles 1
  | .set_1_a => setRegCycles 1 .a
  | .set_2_b => setRegCycles 2 .b
  | .set_2_c => setRegCycles 2 .c
  | .set_2_d => setRegCycles 2 .d
  | .set_2_e => setRegCycles 2 .e
  | .set_2_h => setRegCycles 2 .h
  | .set_2_l => setRegCycles 2 .l
  | .set_2_mhl => setMemCycles 2
  | .set_2_a => setRegCycles 2 .a
  | .set_3_b => setRegCycles 3 .b
  | .set_3_c => setRegCycles 3 .c
  | .set_3_d => setRegCycles 3 .d
  | .set_3_e => setRegCycles 3 .e
  | .set_3_h => setRegCycles 3 .h
  | .set_3_l => setRegCycles 3 .l
  | .set_3_mhl => setMemCycles 3
  | .set_3_a => setRegCycles 3 .a
  | .set_4_b => setRegCycles 4 .b
  | .set_4_c => setRegCycles 4 .c
  | .set_4_d => setRegCycles 4 .d
  | .set_4_e => setRegCycles 4 .e
  | .set_4_h => setRegCycles 4 .h
  | .set_4_l => setRegCycles 4 .l
  | .set_4_mhl => setMemCycles 4
  | .set_4_a => setRegCycles 4 .a
  | .set_5_b => setRegCycles 5 .b
  | .set_5_c => setRegCycles 5 .c
  | .set_5_d => setRegCycles 5 .d
  | .set_5_e => setRegCycles 5 .e
  | .set_5_h => setRegCycles 5 .h
  | .set_5_l => setRegCycles 5 .l
  | .set_5_mhl => setMemCycles 5
  | .set_5_a => setRegCycles 5 .a
  | .set_6_b => setRegCycles 6 .b
  | .set_6_c => setRegCycles 6 .c
  | .set_6_d => setRegCycles 6 .d
  | .set_6_e => setRegCycles 6 .e
  | .set_6_h => setRegCycles 6 .h
  | .set_6_l => setRegCycles 6 .l
  | .set_6_mhl => setMemCycles 6
  | .set_6_a => setRegCycles 6 .a
  | .set_7_b => setRegCycles 7 .b
  | .set_7_c => setRegCycles 7 .c
  | .set_7_d => setRegCycles 7 .d
  | .set_7_e => setRegCycles 7 .e
  | .set_7_h => setRegCycles 7 .h
  | .set_7_l => setRegCycles 7 .l
  | .set_7_mhl => setMemCycles 7
  | .set_7_a => setRegCycles 7 .a
  | .illegal_d3 => undefinedCycles 0xD3
  | .illegal_db => undefinedCycles 0xDB
  | .illegal_dd => undefinedCycles 0xDD
  | .illegal_e3 => undefinedCycles 0xE3
  | .illegal_e4 => undefinedCycles 0xE4
  | .illegal_eb => undefinedCycles 0xEB
  | .illegal_ec => undefinedCycles 0xEC
  | .illegal_ed => undefinedCycles 0xED
  | .illegal_f4 => undefinedCycles 0xF4
  | .illegal_fc => undefinedCycles 0xFC
  | .illegal_fd => undefinedCycles 0xFD

/-- The machine-cycle counts of a row of the opcode table. -/
inductive CycleCount where
  /-- Always `n`. -/
  | always (n : Nat)
  /-- `taken` if the condition holds, else `notTaken`. -/
  | onCondition (cc : Cond) (taken notTaken : Nat)
  deriving DecidableEq, Repr

/-- The machine-cycle counts as the opcode table lists them (30_encoding.md R129, 70_reset_and_hazards.md R421). -/
def tableCycles : Instr → CycleCount
  | .nop => .always 1
  | .ld_bc_nn _ => .always 3
  | .ld_mbc_a => .always 2
  | .inc_bc => .always 2
  | .inc_b => .always 1
  | .dec_b => .always 1
  | .ld_b_n _ => .always 2
  | .rlca => .always 1
  | .ld_mnn_sp _ => .always 5
  | .add_hl_bc => .always 2
  | .ld_a_mbc => .always 2
  | .dec_bc => .always 2
  | .inc_c => .always 1
  | .dec_c => .always 1
  | .ld_c_n _ => .always 2
  | .rrca => .always 1
  | .stop => .always 1
  | .ld_de_nn _ => .always 3
  | .ld_mde_a => .always 2
  | .inc_de => .always 2
  | .inc_d => .always 1
  | .dec_d => .always 1
  | .ld_d_n _ => .always 2
  | .rla => .always 1
  | .jr_e _ => .always 3
  | .add_hl_de => .always 2
  | .ld_a_mde => .always 2
  | .dec_de => .always 2
  | .inc_e => .always 1
  | .dec_e => .always 1
  | .ld_e_n _ => .always 2
  | .rra => .always 1
  | .jr_nz_e _ => .onCondition .nz 3 2
  | .ld_hl_nn _ => .always 3
  | .ld_mhli_a => .always 2
  | .inc_hl => .always 2
  | .inc_h => .always 1
  | .dec_h => .always 1
  | .ld_h_n _ => .always 2
  | .daa => .always 1
  | .jr_z_e _ => .onCondition .z 3 2
  | .add_hl_hl => .always 2
  | .ld_a_mhli => .always 2
  | .dec_hl => .always 2
  | .inc_l => .always 1
  | .dec_l => .always 1
  | .ld_l_n _ => .always 2
  | .cpl => .always 1
  | .jr_nc_e _ => .onCondition .nc 3 2
  | .ld_sp_nn _ => .always 3
  | .ld_mhld_a => .always 2
  | .inc_sp => .always 2
  | .inc_mhl => .always 3
  | .dec_mhl => .always 3
  | .ld_mhl_n _ => .always 3
  | .scf => .always 1
  | .jr_c_e _ => .onCondition .c 3 2
  | .add_hl_sp => .always 2
  | .ld_a_mhld => .always 2
  | .dec_sp => .always 2
  | .inc_a => .always 1
  | .dec_a => .always 1
  | .ld_a_n _ => .always 2
  | .ccf => .always 1
  | .ld_b_b => .always 1
  | .ld_b_c => .always 1
  | .ld_b_d => .always 1
  | .ld_b_e => .always 1
  | .ld_b_h => .always 1
  | .ld_b_l => .always 1
  | .ld_b_mhl => .always 2
  | .ld_b_a => .always 1
  | .ld_c_b => .always 1
  | .ld_c_c => .always 1
  | .ld_c_d => .always 1
  | .ld_c_e => .always 1
  | .ld_c_h => .always 1
  | .ld_c_l => .always 1
  | .ld_c_mhl => .always 2
  | .ld_c_a => .always 1
  | .ld_d_b => .always 1
  | .ld_d_c => .always 1
  | .ld_d_d => .always 1
  | .ld_d_e => .always 1
  | .ld_d_h => .always 1
  | .ld_d_l => .always 1
  | .ld_d_mhl => .always 2
  | .ld_d_a => .always 1
  | .ld_e_b => .always 1
  | .ld_e_c => .always 1
  | .ld_e_d => .always 1
  | .ld_e_e => .always 1
  | .ld_e_h => .always 1
  | .ld_e_l => .always 1
  | .ld_e_mhl => .always 2
  | .ld_e_a => .always 1
  | .ld_h_b => .always 1
  | .ld_h_c => .always 1
  | .ld_h_d => .always 1
  | .ld_h_e => .always 1
  | .ld_h_h => .always 1
  | .ld_h_l => .always 1
  | .ld_h_mhl => .always 2
  | .ld_h_a => .always 1
  | .ld_l_b => .always 1
  | .ld_l_c => .always 1
  | .ld_l_d => .always 1
  | .ld_l_e => .always 1
  | .ld_l_h => .always 1
  | .ld_l_l => .always 1
  | .ld_l_mhl => .always 2
  | .ld_l_a => .always 1
  | .ld_mhl_b => .always 2
  | .ld_mhl_c => .always 2
  | .ld_mhl_d => .always 2
  | .ld_mhl_e => .always 2
  | .ld_mhl_h => .always 2
  | .ld_mhl_l => .always 2
  | .halt => .always 1
  | .ld_mhl_a => .always 2
  | .ld_a_b => .always 1
  | .ld_a_c => .always 1
  | .ld_a_d => .always 1
  | .ld_a_e => .always 1
  | .ld_a_h => .always 1
  | .ld_a_l => .always 1
  | .ld_a_mhl => .always 2
  | .ld_a_a => .always 1
  | .add_a_b => .always 1
  | .add_a_c => .always 1
  | .add_a_d => .always 1
  | .add_a_e => .always 1
  | .add_a_h => .always 1
  | .add_a_l => .always 1
  | .add_a_mhl => .always 2
  | .add_a_a => .always 1
  | .adc_a_b => .always 1
  | .adc_a_c => .always 1
  | .adc_a_d => .always 1
  | .adc_a_e => .always 1
  | .adc_a_h => .always 1
  | .adc_a_l => .always 1
  | .adc_a_mhl => .always 2
  | .adc_a_a => .always 1
  | .sub_b => .always 1
  | .sub_c => .always 1
  | .sub_d => .always 1
  | .sub_e => .always 1
  | .sub_h => .always 1
  | .sub_l => .always 1
  | .sub_mhl => .always 2
  | .sub_a => .always 1
  | .sbc_a_b => .always 1
  | .sbc_a_c => .always 1
  | .sbc_a_d => .always 1
  | .sbc_a_e => .always 1
  | .sbc_a_h => .always 1
  | .sbc_a_l => .always 1
  | .sbc_a_mhl => .always 2
  | .sbc_a_a => .always 1
  | .and_b => .always 1
  | .and_c => .always 1
  | .and_d => .always 1
  | .and_e => .always 1
  | .and_h => .always 1
  | .and_l => .always 1
  | .and_mhl => .always 2
  | .and_a => .always 1
  | .xor_b => .always 1
  | .xor_c => .always 1
  | .xor_d => .always 1
  | .xor_e => .always 1
  | .xor_h => .always 1
  | .xor_l => .always 1
  | .xor_mhl => .always 2
  | .xor_a => .always 1
  | .or_b => .always 1
  | .or_c => .always 1
  | .or_d => .always 1
  | .or_e => .always 1
  | .or_h => .always 1
  | .or_l => .always 1
  | .or_mhl => .always 2
  | .or_a => .always 1
  | .cp_b => .always 1
  | .cp_c => .always 1
  | .cp_d => .always 1
  | .cp_e => .always 1
  | .cp_h => .always 1
  | .cp_l => .always 1
  | .cp_mhl => .always 2
  | .cp_a => .always 1
  | .ret_nz => .onCondition .nz 5 2
  | .pop_bc => .always 3
  | .jp_nz_nn _ => .onCondition .nz 4 3
  | .jp_nn _ => .always 4
  | .call_nz_nn _ => .onCondition .nz 6 3
  | .push_bc => .always 4
  | .add_a_n _ => .always 2
  | .rst_00 => .always 4
  | .ret_z => .onCondition .z 5 2
  | .ret => .always 4
  | .jp_z_nn _ => .onCondition .z 4 3
  | .call_z_nn _ => .onCondition .z 6 3
  | .call_nn _ => .always 6
  | .adc_a_n _ => .always 2
  | .rst_08 => .always 4
  | .ret_nc => .onCondition .nc 5 2
  | .pop_de => .always 3
  | .jp_nc_nn _ => .onCondition .nc 4 3
  | .call_nc_nn _ => .onCondition .nc 6 3
  | .push_de => .always 4
  | .sub_n _ => .always 2
  | .rst_10 => .always 4
  | .ret_c => .onCondition .c 5 2
  | .reti => .always 4
  | .jp_c_nn _ => .onCondition .c 4 3
  | .call_c_nn _ => .onCondition .c 6 3
  | .sbc_a_n _ => .always 2
  | .rst_18 => .always 4
  | .ldh_mn_a _ => .always 3
  | .pop_hl => .always 3
  | .ldh_mc_a => .always 2
  | .push_hl => .always 4
  | .and_n _ => .always 2
  | .rst_20 => .always 4
  | .add_sp_e _ => .always 4
  | .jp_hl => .always 1
  | .ld_mnn_a _ => .always 4
  | .xor_n _ => .always 2
  | .rst_28 => .always 4
  | .ldh_a_mn _ => .always 3
  | .pop_af => .always 3
  | .ldh_a_mc => .always 2
  | .di => .always 1
  | .push_af => .always 4
  | .or_n _ => .always 2
  | .rst_30 => .always 4
  | .ld_hl_sp_e _ => .always 3
  | .ld_sp_hl => .always 2
  | .ld_a_mnn _ => .always 4
  | .ei => .always 1
  | .cp_n _ => .always 2
  | .rst_38 => .always 4
  | .rlc_b => .always 2
  | .rlc_c => .always 2
  | .rlc_d => .always 2
  | .rlc_e => .always 2
  | .rlc_h => .always 2
  | .rlc_l => .always 2
  | .rlc_mhl => .always 4
  | .rlc_a => .always 2
  | .rrc_b => .always 2
  | .rrc_c => .always 2
  | .rrc_d => .always 2
  | .rrc_e => .always 2
  | .rrc_h => .always 2
  | .rrc_l => .always 2
  | .rrc_mhl => .always 4
  | .rrc_a => .always 2
  | .rl_b => .always 2
  | .rl_c => .always 2
  | .rl_d => .always 2
  | .rl_e => .always 2
  | .rl_h => .always 2
  | .rl_l => .always 2
  | .rl_mhl => .always 4
  | .rl_a => .always 2
  | .rr_b => .always 2
  | .rr_c => .always 2
  | .rr_d => .always 2
  | .rr_e => .always 2
  | .rr_h => .always 2
  | .rr_l => .always 2
  | .rr_mhl => .always 4
  | .rr_a => .always 2
  | .sla_b => .always 2
  | .sla_c => .always 2
  | .sla_d => .always 2
  | .sla_e => .always 2
  | .sla_h => .always 2
  | .sla_l => .always 2
  | .sla_mhl => .always 4
  | .sla_a => .always 2
  | .sra_b => .always 2
  | .sra_c => .always 2
  | .sra_d => .always 2
  | .sra_e => .always 2
  | .sra_h => .always 2
  | .sra_l => .always 2
  | .sra_mhl => .always 4
  | .sra_a => .always 2
  | .swap_b => .always 2
  | .swap_c => .always 2
  | .swap_d => .always 2
  | .swap_e => .always 2
  | .swap_h => .always 2
  | .swap_l => .always 2
  | .swap_mhl => .always 4
  | .swap_a => .always 2
  | .srl_b => .always 2
  | .srl_c => .always 2
  | .srl_d => .always 2
  | .srl_e => .always 2
  | .srl_h => .always 2
  | .srl_l => .always 2
  | .srl_mhl => .always 4
  | .srl_a => .always 2
  | .bit_0_b => .always 2
  | .bit_0_c => .always 2
  | .bit_0_d => .always 2
  | .bit_0_e => .always 2
  | .bit_0_h => .always 2
  | .bit_0_l => .always 2
  | .bit_0_mhl => .always 3
  | .bit_0_a => .always 2
  | .bit_1_b => .always 2
  | .bit_1_c => .always 2
  | .bit_1_d => .always 2
  | .bit_1_e => .always 2
  | .bit_1_h => .always 2
  | .bit_1_l => .always 2
  | .bit_1_mhl => .always 3
  | .bit_1_a => .always 2
  | .bit_2_b => .always 2
  | .bit_2_c => .always 2
  | .bit_2_d => .always 2
  | .bit_2_e => .always 2
  | .bit_2_h => .always 2
  | .bit_2_l => .always 2
  | .bit_2_mhl => .always 3
  | .bit_2_a => .always 2
  | .bit_3_b => .always 2
  | .bit_3_c => .always 2
  | .bit_3_d => .always 2
  | .bit_3_e => .always 2
  | .bit_3_h => .always 2
  | .bit_3_l => .always 2
  | .bit_3_mhl => .always 3
  | .bit_3_a => .always 2
  | .bit_4_b => .always 2
  | .bit_4_c => .always 2
  | .bit_4_d => .always 2
  | .bit_4_e => .always 2
  | .bit_4_h => .always 2
  | .bit_4_l => .always 2
  | .bit_4_mhl => .always 3
  | .bit_4_a => .always 2
  | .bit_5_b => .always 2
  | .bit_5_c => .always 2
  | .bit_5_d => .always 2
  | .bit_5_e => .always 2
  | .bit_5_h => .always 2
  | .bit_5_l => .always 2
  | .bit_5_mhl => .always 3
  | .bit_5_a => .always 2
  | .bit_6_b => .always 2
  | .bit_6_c => .always 2
  | .bit_6_d => .always 2
  | .bit_6_e => .always 2
  | .bit_6_h => .always 2
  | .bit_6_l => .always 2
  | .bit_6_mhl => .always 3
  | .bit_6_a => .always 2
  | .bit_7_b => .always 2
  | .bit_7_c => .always 2
  | .bit_7_d => .always 2
  | .bit_7_e => .always 2
  | .bit_7_h => .always 2
  | .bit_7_l => .always 2
  | .bit_7_mhl => .always 3
  | .bit_7_a => .always 2
  | .res_0_b => .always 2
  | .res_0_c => .always 2
  | .res_0_d => .always 2
  | .res_0_e => .always 2
  | .res_0_h => .always 2
  | .res_0_l => .always 2
  | .res_0_mhl => .always 4
  | .res_0_a => .always 2
  | .res_1_b => .always 2
  | .res_1_c => .always 2
  | .res_1_d => .always 2
  | .res_1_e => .always 2
  | .res_1_h => .always 2
  | .res_1_l => .always 2
  | .res_1_mhl => .always 4
  | .res_1_a => .always 2
  | .res_2_b => .always 2
  | .res_2_c => .always 2
  | .res_2_d => .always 2
  | .res_2_e => .always 2
  | .res_2_h => .always 2
  | .res_2_l => .always 2
  | .res_2_mhl => .always 4
  | .res_2_a => .always 2
  | .res_3_b => .always 2
  | .res_3_c => .always 2
  | .res_3_d => .always 2
  | .res_3_e => .always 2
  | .res_3_h => .always 2
  | .res_3_l => .always 2
  | .res_3_mhl => .always 4
  | .res_3_a => .always 2
  | .res_4_b => .always 2
  | .res_4_c => .always 2
  | .res_4_d => .always 2
  | .res_4_e => .always 2
  | .res_4_h => .always 2
  | .res_4_l => .always 2
  | .res_4_mhl => .always 4
  | .res_4_a => .always 2
  | .res_5_b => .always 2
  | .res_5_c => .always 2
  | .res_5_d => .always 2
  | .res_5_e => .always 2
  | .res_5_h => .always 2
  | .res_5_l => .always 2
  | .res_5_mhl => .always 4
  | .res_5_a => .always 2
  | .res_6_b => .always 2
  | .res_6_c => .always 2
  | .res_6_d => .always 2
  | .res_6_e => .always 2
  | .res_6_h => .always 2
  | .res_6_l => .always 2
  | .res_6_mhl => .always 4
  | .res_6_a => .always 2
  | .res_7_b => .always 2
  | .res_7_c => .always 2
  | .res_7_d => .always 2
  | .res_7_e => .always 2
  | .res_7_h => .always 2
  | .res_7_l => .always 2
  | .res_7_mhl => .always 4
  | .res_7_a => .always 2
  | .set_0_b => .always 2
  | .set_0_c => .always 2
  | .set_0_d => .always 2
  | .set_0_e => .always 2
  | .set_0_h => .always 2
  | .set_0_l => .always 2
  | .set_0_mhl => .always 4
  | .set_0_a => .always 2
  | .set_1_b => .always 2
  | .set_1_c => .always 2
  | .set_1_d => .always 2
  | .set_1_e => .always 2
  | .set_1_h => .always 2
  | .set_1_l => .always 2
  | .set_1_mhl => .always 4
  | .set_1_a => .always 2
  | .set_2_b => .always 2
  | .set_2_c => .always 2
  | .set_2_d => .always 2
  | .set_2_e => .always 2
  | .set_2_h => .always 2
  | .set_2_l => .always 2
  | .set_2_mhl => .always 4
  | .set_2_a => .always 2
  | .set_3_b => .always 2
  | .set_3_c => .always 2
  | .set_3_d => .always 2
  | .set_3_e => .always 2
  | .set_3_h => .always 2
  | .set_3_l => .always 2
  | .set_3_mhl => .always 4
  | .set_3_a => .always 2
  | .set_4_b => .always 2
  | .set_4_c => .always 2
  | .set_4_d => .always 2
  | .set_4_e => .always 2
  | .set_4_h => .always 2
  | .set_4_l => .always 2
  | .set_4_mhl => .always 4
  | .set_4_a => .always 2
  | .set_5_b => .always 2
  | .set_5_c => .always 2
  | .set_5_d => .always 2
  | .set_5_e => .always 2
  | .set_5_h => .always 2
  | .set_5_l => .always 2
  | .set_5_mhl => .always 4
  | .set_5_a => .always 2
  | .set_6_b => .always 2
  | .set_6_c => .always 2
  | .set_6_d => .always 2
  | .set_6_e => .always 2
  | .set_6_h => .always 2
  | .set_6_l => .always 2
  | .set_6_mhl => .always 4
  | .set_6_a => .always 2
  | .set_7_b => .always 2
  | .set_7_c => .always 2
  | .set_7_d => .always 2
  | .set_7_e => .always 2
  | .set_7_h => .always 2
  | .set_7_l => .always 2
  | .set_7_mhl => .always 4
  | .set_7_a => .always 2
  | .illegal_d3 => .always 1
  | .illegal_db => .always 1
  | .illegal_dd => .always 1
  | .illegal_e3 => .always 1
  | .illegal_e4 => .always 1
  | .illegal_eb => .always 1
  | .illegal_ec => .always 1
  | .illegal_ed => .always 1
  | .illegal_f4 => .always 1
  | .illegal_fc => .always 1
  | .illegal_fd => .always 1

/-- The number of machine cycles an instruction takes with the given flags. -/
def machineCycles (i : Instr) (f : Flags) : Nat :=
  match tableCycles i with
  | .always n => n
  | .onCondition cc taken notTaken => if condHolds cc f then taken else notTaken

end Sys2Proof.Machine
end

