-- ==== Sys2Proof/Machine/SystemStep.lean ====
section
/-! DEFINITION. The one-cycle step of the spec, `SystemStep` (00_scope.md R8), with `CpuStep` (60_exceptions.md R360): the
machine one machine cycle at a time, the stage counter, IR and the pass-through saying where an instruction stands. -/

namespace Sys2Proof.Machine

/-- A cycle of a list by its number; past the list's end, which no run reaches, the instruction retires in place
(log 10). -/
def nthCycle (cycles : List Cycle) (k : Nat) : Cycle :=
  match cycles[k]? with
  | some c => c
  | none => last fun s => s.retire s.cpu.pc

/-- Stage `s.cpu.stage` of an opcode: an operand byte is read in stages 1 to the number of operand bytes, and the stage of
the last of them begins the instruction's own cycles (00_scope.md R12). -/
def runOpcode (op : Byte) (s : State) : Phase :=
  let n := operandReads op
  let s' := if s.cpu.stage = 0 then s else if s.cpu.stage ≤ n then readOperand s.cpu.stage s else s
  if s.cpu.stage < n then .more s' else nthCycle (cyclesOf s'.latched) (s.cpu.stage - n) s'

/-- "Run stage `stage` of IR" (60_exceptions.md R360). -/
def runStage (s : State) : Phase :=
  match s.cpu.ir with
  | .opcode op => runOpcode op s
  | .int k => nthCycle (dispatchCycles k) s.cpu.stage s

/-- What a stage leaves: the stage counter goes on, or the terminal stage has set it. -/
def Phase.state : Phase → State
  | .more s => s.nextStage
  | .done s => s

/-- `CpuStep` (60_exceptions.md R360). -/
def cpuStep (s : State) : State :=
  if s.cpu.stage ≠ 0 then (runStage s).state
  else
    match boundary s with
    | .asleep => s
    | .dispatch k s' => (runStage (latchDispatch k s')).state
    | .fetch s' => (runStage (fetchOpcode s')).state

/-- `SystemStep` (00_scope.md R8). -/
def systemStep (s : State) : State :=
  if s.cpu.fatal.isSome then s
  else
    let s' := cpuStep s
    if s'.cpu.fatal.isSome then s' else deviceTick s'

/-- One machine cycle and then the host's turn (00_scope.md R7). -/
def machineCycle (s : State) : State :=
  let s' := systemStep s
  if s'.cpu.fatal.isSome then s' else hostTurn s'

/-- A number of machine cycles. -/
def machineCyclesFrom : Nat → State → State
  | 0, s => s
  | n + 1, s => machineCyclesFrom n (machineCycle s)

/-- Machine cycles up to the next instruction boundary or the fatal state, at most a number of them. -/
def runToBoundary : Nat → State → State
  | 0, s => s
  | n + 1, s =>
    let s' := machineCycle s
    if s'.cpu.stage = 0 ∨ s'.cpu.fatal.isSome then s' else runToBoundary n s'

end Sys2Proof.Machine
end

