-- ==== Sys2Proof/Machine/Step.lean ====
section
/-! DEFINITION. The step of the model: one whole instruction, one whole interrupt dispatch, one machine cycle of a halted
CPU, or the rest of what is in progress (log 1). -/

namespace Sys2Proof.Machine

/-- One step of the machine. In the fatal state a step is the identity (60_exceptions.md R351). -/
def step (s : State) : Result :=
  if s.cpu.fatal.isSome then .next s
  else if s.cpu.stage ≠ 0 then .next (runToBoundary 6 s)
  else
    match boundary s with
    | .asleep => .next (endCycle s)
    | .dispatch k s' => dispatchStep k s'
    | .fetch s' => finish (exec (fetched s').latched (fetched s'))

/-- The machine with an instruction, its bits numbered as the opcode table numbers them, where the next step fetches, and
ready to fetch it (log 9). -/
def State.withFetchWord (s : State) (nbits w : Nat) : State :=
  placeBytes (readyToFetch s) (readyToFetch s).cpu.pc (tableBytes nbits w)

end Sys2Proof.Machine
end

