-- ==== Sys2Proof/Safety.lean ====
section
/-! DEFINITION. What counts as a safe run: the diagnostic of a stopped machine, and the invariants of the state that every
step keeps. -/

namespace Sys2Proof.Machine

/-- The diagnostic a stopped machine gives its host (60_exceptions.md R351, R379); `none` while it runs. -/
def State.diagnostic (s : State) : Option Fault := s.cpu.fatal.map fun d => .undefinedOpcode d.1 d.2

/-- The machine runs: no undefined opcode has been fetched. -/
def State.running (s : State) : Bool := s.cpu.fatal.isNone

/-- An address of byte storage: VRAM, external RAM, working RAM, OAM, the sound stub or high RAM (10_state.md R52, R58,
R60). -/
def storageAddress (a : Nat) : Bool :=
  (decide (0x8000 ≤ a) && decide (a ≤ 0xDFFF)) || (decide (0xFE00 ≤ a) && decide (a ≤ 0xFE9F)) ||
    (decide (0xFF10 ≤ a) && decide (a ≤ 0xFF3F)) || (decide (0xFF80 ≤ a) && decide (a ≤ 0xFFFE))

/-- Byte storage in canonical form that lists only addresses of a set. -/
structure Memory.Inv (m : Memory) (allowed : Nat → Bool) : Prop where
  canonical : m.wf = true
  addresses : ∀ cell ∈ m, allowed cell.1 = true

/-- The number of dots of a mode (50_ppu.md R300); Off has none. -/
def PpuMode.dots : PpuMode → Nat
  | .off => 0
  | .mode0 => 204
  | .mode1 => 4560
  | .mode2 => 80
  | .mode3 => 172

/-- LY is a value its mode allows (50_ppu.md R305, R309). -/
def Ppu.lyFits (p : Ppu) (vblankLyCounts : Bool) : Prop :=
  match p.mode with
  | .off => p.ly.toNat ≤ 153
  | .mode0 => p.ly.toNat ≤ 143
  | .mode2 => p.ly.toNat ≤ 143
  | .mode3 => p.ly.toNat ≤ 143
  | .mode1 => p.ly.toNat = if vblankLyCounts then 144 + p.dots / 456 else 144

/-- The invariant of the PPU (10_state.md R46, R56, R57; 50_ppu.md R302, R305, R308, R309). -/
structure Ppu.Inv (p : Ppu) (vblankLyCounts : Bool) : Prop where
  off_iff : p.mode = .off ↔ p.lcdEn = false
  stat_mode : p.statMode = p.mode.code
  dots_multiple : p.dots % 4 = 0
  dots_bound : p.mode ≠ .off → p.dots < p.mode.dots
  dots_off : p.mode = .off → p.dots = 0
  ly_fits : p.lyFits vblankLyCounts
  objects : p.lineObjs.length ≤ 10

/-- The invariant of the CPU's control state (10_state.md R31, R32, R35). -/
structure Cpu.Inv (c : Cpu) : Prop where
  stage_bound : c.stage ≤ 5
  halted_boundary : c.halted = true → c.stage = 0
  no_di : c.di = false

/-- The invariant of the machine between two machine cycles. -/
structure State.Inv (s : State) : Prop where
  cpu : s.cpu.Inv
  ppu : s.ppu.Inv s.params.vblankLyCounts
  div_multiple : s.timer.div.toNat % 4 = 0
  mem : s.mem.Inv storageAddress
  bootRom : s.bootRom.Inv fun a => decide (a < bootRomSize)
  cartRom : s.cartRom.Inv fun a => decide (a < cartRomSize)

end Sys2Proof.Machine
end

