-- ==== Sys2Proof/Certificates/Slice0/Obligations.lean ====
section
/-! DEFINITION. The statements about the model, one `def Obligations.<Name> : Prop` each, and the vocabulary they are
written in. `between s` is the state one machine cycle later as an instruction sees it (the timer, the PPU and the host
have had their turn, 00_scope.md R12); `s` is the state in which the CPU has read the instruction's last byte. The end of
an instruction (`retire`, `advance`) leaves a fresh pass-through; that the model clears the fields of it that have no
meaning there, `d8`, `d16` and `pf`, is the model's own choice (log 6) and no rule's. A decision D<n>
named below is the spec's own (92_eei_decisions.md), which the model follows (log 14), as it follows what a rule marks as general
knowledge or as derived. -/

namespace Sys2Proof.Claims

open Sys2Proof.Machine

/-! ### Selectors of the encodings (30_encoding.md R112) -/

/-- The `r8` selector. -/
def reg8 : Reg8 → Nat
  | .b => 0
  | .c => 1
  | .d => 2
  | .e => 3
  | .h => 4
  | .l => 5
  | .a => 7

/-- The `r16` selector. -/
def reg16 : Reg16 → Nat
  | .bc => 0
  | .de => 1
  | .hl => 2
  | .sp => 3

/-- The `r16s` selector. -/
def reg16s : Reg16s → Nat
  | .bc => 0
  | .de => 1
  | .hl => 2
  | .af => 3

/-- The `cc` selector. -/
def cond : Cond → Nat
  | .nz => 0
  | .z => 1
  | .nc => 2
  | .c => 3

/-- The selector of an accumulator operation. -/
def aluOp : AluOp → Nat
  | .add => 0
  | .adc => 1
  | .sub => 2
  | .sbc => 3
  | .and => 4
  | .xor => 5
  | .or => 6
  | .cp => 7

/-- The selector of a rotate or shift. -/
def shiftOp : ShiftOp → Nat
  | .rlc => 0
  | .rrc => 1
  | .rl => 2
  | .rr => 3
  | .sla => 4
  | .sra => 5
  | .swap => 6
  | .srl => 7

/-- A byte by its value. -/
def byte (n : Nat) : Byte := BitVec.ofNat 8 n

/-- A term's row: its bytes and, on every path, its number of machine cycles. -/
def TableRow (i : Instr) (bytes : List Byte) (cycles : Nat) : Prop := encode i = bytes ∧ ∀ f, machineCycles i f = cycles

/-- A conditional term's row: its bytes and its number of machine cycles taken and not taken. -/
def CondTableRow (i : Instr) (bytes : List Byte) (cc : Cond) (taken notTaken : Nat) : Prop :=
  encode i = bytes ∧ ∀ f, machineCycles i f = if condHolds cc f then taken else notTaken

/-! ### Flags and arithmetic -/

/-- The four flags hold exactly under four conditions. -/
def FlagsAre (f : Flags) (z n h c : Prop) : Prop :=
  (f.z = true ↔ z) ∧ (f.n = true ↔ n) ∧ (f.h = true ↔ h) ∧ (f.c = true ↔ c)

/-- A flag as a number. -/
def num (b : Bool) : Int := if b then 1 else 0

/-- The new A and flags of an accumulator operation on A and an operand (42_alu8.md R187 to R194). -/
def Accumulator (op : AluOp) (a v : Byte) (f : Flags) (a' : Byte) (f' : Flags) : Prop :=
  let A : Int := a.toNat
  let V : Int := v.toNat
  let C : Int := num f.c
  match op with
  | .add =>
    (a'.toNat : Int) = (A + V) % 256 ∧
      FlagsAre f' ((A + V) % 256 = 0) False (A % 16 + V % 16 > 0xF) (A + V > 0xFF)
  | .adc =>
    (a'.toNat : Int) = (A + V + C) % 256 ∧
      FlagsAre f' ((A + V + C) % 256 = 0) False (A % 16 + V % 16 + C > 0xF) (A + V + C > 0xFF)
  | .sub =>
    (a'.toNat : Int) = (A - V) % 256 ∧ FlagsAre f' ((A - V) % 256 = 0) True (A % 16 < V % 16) (A < V)
  | .sbc =>
    (a'.toNat : Int) = (A - V - C) % 256 ∧
      FlagsAre f' ((A - V - C) % 256 = 0) True (A % 16 - V % 16 - C < 0) (A - V - C < 0)
  | .and => (∀ k, k < 8 → a'.getLsbD k = (a.getLsbD k && v.getLsbD k)) ∧ FlagsAre f' (a' = 0) False True False
  | .xor => (∀ k, k < 8 → a'.getLsbD k = (a.getLsbD k ^^ v.getLsbD k)) ∧ FlagsAre f' (a' = 0) False False False
  | .or => (∀ k, k < 8 → a'.getLsbD k = (a.getLsbD k || v.getLsbD k)) ∧ FlagsAre f' (a' = 0) False False False
  | .cp => a' = a ∧ FlagsAre f' (A = V) True (A % 16 < V % 16) (A < V)

/-- The result and the carry out of a rotate or shift of a byte; `c` is the carry flag before (44_rotate_shift_bit.md
R237 to R244). -/
def Shift (op : ShiftOp) (v : Byte) (c : Bool) (r : Byte) (out : Bool) : Prop :=
  let V : Int := v.toNat
  match op with
  | .rlc => (r.toNat : Int) = 2 * V % 256 + V / 128 ∧ (out = true ↔ V ≥ 128)
  | .rrc => (r.toNat : Int) = V / 2 + 128 * (V % 2) ∧ (out = true ↔ V % 2 = 1)
  | .rl => (r.toNat : Int) = 2 * V % 256 + num c ∧ (out = true ↔ V ≥ 128)
  | .rr => (r.toNat : Int) = V / 2 + 128 * num c ∧ (out = true ↔ V % 2 = 1)
  | .sla => (r.toNat : Int) = 2 * V % 256 ∧ (out = true ↔ V ≥ 128)
  | .sra => (r.toNat : Int) = V / 2 + 128 * (V / 128) ∧ (out = true ↔ V % 2 = 1)
  | .swap => (r.toNat : Int) = 16 * (V % 16) + V / 16 ∧ out = false
  | .srl => (r.toNat : Int) = V / 2 ∧ (out = true ↔ V % 2 = 1)

/-- The two-digit decimal value a packed BCD byte stands for. -/
def bcd (b : Byte) : Nat := 10 * (b.toNat / 16) + b.toNat % 16

/-- Both digits of a byte are decimal. -/
def IsBcd (b : Byte) : Prop := b.toNat / 16 ≤ 9 ∧ b.toNat % 16 ≤ 9

/-! ### Pushes -/

/-- A word pushed, high byte first, one machine cycle between the two writes: the state at the second write
(41_load16_stack.md R176). -/
def pushed (v : Word) (s : State) : State :=
  let high := memWrite (s.setSp (s.cpu.sp - 1)) (s.cpu.sp - 1) (hiByte v)
  memWrite ((between high).setSp (s.cpu.sp - 2)) (s.cpu.sp - 2) (loByte v)

/-! ### Stores -/

/-- The addresses an instruction stores to, from the state in which it begins (40_load8.md, 41_load16_stack.md,
42_alu8.md, 44_rotate_shift_bit.md, 45_control.md): by the expressions of the rules, nothing for a form that stores
nothing. -/
def storesOf (i : Instr) (s : State) : List Word :=
  let push : List Word := [s.cpu.sp - 1, s.cpu.sp - 2]
  match i with
  | .ld_mhl_b | .ld_mhl_c | .ld_mhl_d | .ld_mhl_e | .ld_mhl_h | .ld_mhl_l | .ld_mhl_a | .ld_mhl_n _ => [s.hl]
  | .ld_mhli_a | .ld_mhld_a | .inc_mhl | .dec_mhl => [s.hl]
  | .ld_mbc_a => [s.r16 .bc]
  | .ld_mde_a => [s.r16 .de]
  | .ld_mnn_a nn => [nn]
  | .ldh_mc_a => [0xFF00 + zext16 s.cpu.c]
  | .ldh_mn_a n => [0xFF00 + zext16 n]
  | .ld_mnn_sp nn => [nn, nn + 1]
  | .push_bc | .push_de | .push_hl | .push_af => push
  | .call_nn _ => push
  | .call_nz_nn _ => if s.cpu.f.z then [] else push
  | .call_z_nn _ => if s.cpu.f.z then push else []
  | .call_nc_nn _ => if s.cpu.f.c then [] else push
  | .call_c_nn _ => if s.cpu.f.c then push else []
  | .rst_00 | .rst_08 | .rst_10 | .rst_18 | .rst_20 | .rst_28 | .rst_30 | .rst_38 => push
  | .rlc_mhl | .rrc_mhl | .rl_mhl | .rr_mhl | .sla_mhl | .sra_mhl | .swap_mhl | .srl_mhl => [s.hl]
  | .res_0_mhl | .res_1_mhl | .res_2_mhl | .res_3_mhl | .res_4_mhl | .res_5_mhl | .res_6_mhl | .res_7_mhl => [s.hl]
  | .set_0_mhl | .set_1_mhl | .set_2_mhl | .set_3_mhl | .set_4_mhl | .set_5_mhl | .set_6_mhl | .set_7_mhl => [s.hl]
  | _ => []

/-- The storage byte an address names, if it names one: VRAM, RAM and its echo, OAM, the sound stub, high RAM
(20_memory.md R71). -/
def storageCell (a : Word) : Option Nat :=
  match regionOf a with
  | .vram => some a.toNat
  | .ram k => some k
  | .oam => some a.toNat
  | .io .sound => some a.toNat
  | _ => none

/-- An address of a register that is no byte storage: 0xFF00 to 0xFF7F, or IE at 0xFFFF. -/
def isRegister (a : Word) : Bool := (decide (0xFF00 ≤ a.toNat) && decide (a.toNat ≤ 0xFF7F)) || a == 0xFFFF

/-- The instructions that write SP (10_state.md R23). -/
def writesSp : Instr → Bool
  | .ld_sp_nn _ | .ld_sp_hl | .add_sp_e _ | .inc_sp | .dec_sp => true
  | .push_bc | .push_de | .push_hl | .push_af | .pop_bc | .pop_de | .pop_hl | .pop_af => true
  | .call_nn _ | .call_nz_nn _ | .call_z_nn _ | .call_nc_nn _ | .call_c_nn _ => true
  | .ret | .reti | .ret_nz | .ret_z | .ret_nc | .ret_c => true
  | .rst_00 | .rst_08 | .rst_10 | .rst_18 | .rst_20 | .rst_28 | .rst_30 | .rst_38 => true
  | _ => false

/-! ### The machine cycle by cycle -/

/-- The bytes a fetch at PC reads, each in the machine cycle that reads it (30_encoding.md R113 to R115). -/
def fetchedBytes (s : State) : List Byte :=
  let m2 := between (fetchOpcode s)
  let m3 := between (readOperand1 m2)
  [memRead s s.cpu.pc, memRead m2 (s.cpu.pc + 1), memRead m3 (s.cpu.pc + 2)]

/-- The number of machine cycles the next step stands for, by the opcode table (70_reset_and_hazards.md R421, R422). -/
def cyclesOfStep (s : State) : Nat :=
  match boundary s with
  | .asleep => 1
  | .dispatch _ _ => 5
  | .fetch s' => machineCycles (fetched s').latched s'.cpu.f

/-- The machine stands at an instruction boundary and runs. -/
def AtBoundary (s : State) : Prop := s.cpu.fatal = none ∧ s.cpu.stage = 0

/-- A number of calls of `PpuAdvance`. -/
def ppuCalls : Nat → State → State
  | 0, s => s
  | n + 1, s => ppuCalls n (ppuAdvance s)

/-- An OAM entry is on the current scanline (50_ppu.md R314). -/
def OnLine (s : State) (i : Fin 40) : Prop :=
  let y := (s.mem.read (0xFE00 + 4 * i.val)).toNat
  y ≤ s.ppu.ly.toNat + 16 ∧ s.ppu.ly.toNat + 16 < y + (if s.ppu.lcdc.getLsbD 2 then 16 else 8)

/-- The color number of pixel `(x, y)` of a tile map (50_ppu.md R325, R326): the map entry is a tile number, unsigned from
0x8000 or signed from 0x9000 by LCDC bit 4; the tile's row is two bytes, the low bits of the color numbers first. -/
def tilePixel (s : State) (base x y : Nat) : Nat :=
  let entry := s.mem.read (base + 32 * (y / 8) + x / 8)
  let tile : Int := if s.ppu.lcdc.getLsbD 4 then 0x8000 + 16 * entry.toNat else 0x9000 + 16 * entry.toInt
  let plane (k : Nat) : Nat := (s.mem.read (tile.toNat + 2 * (y % 8) + k)).toNat / 2 ^ (7 - x % 8) % 2
  2 * plane 1 + plane 0

/-- The color number of pixel `k` of a sprite, left to right on the screen (50_ppu.md R330, R331): over the integers,
division rounding toward minus infinity, the VRAM offset reduced modulo 8192. -/
def spritePixel (s : State) (i : Fin 40) (k : Nat) : Nat :=
  let y := (s.mem.read (0xFE00 + 4 * i.val)).toNat
  let t := (s.mem.read (0xFE00 + 4 * i.val + 2)).toNat
  let attr := s.mem.read (0xFE00 + 4 * i.val + 3)
  let tall := s.ppu.lcdc.getLsbD 2
  let down : Int := s.ppu.ly.toNat + 16 - y
  let line : Int := if attr.getLsbD 6 then (if tall then 15 else 7) - down else down
  let tile : Int := if tall then 2 * (t / 2) + line / 8 else t
  let column := if attr.getLsbD 5 then 7 - k else k
  let plane (n : Nat) : Nat :=
    (s.mem.read (0x8000 + ((16 * tile + 2 * (line % 8) + n) % 8192).toNat)).toNat / 2 ^ (7 - column) % 2
  2 * plane 1 + plane 0

/-- The x coordinate of an OAM entry (10_state.md R58). -/
def objX (s : State) (i : Fin 40) : Nat := (s.mem.read (0xFE00 + 4 * i.val + 1)).toNat

/-- Every storage byte 0x00, the three palettes 0xE4, everything else clear, the boot ROM mapped, the LCD off
(70_reset_and_hazards.md R401); the bus shows JOYP and STAT so. -/
def AtReset (s : State) : Prop :=
  (∀ r : Reg8, s.r8 r = 0x00) ∧ s.cpu.f.toByte = 0x00 ∧ s.cpu.sp = 0x0000 ∧ s.cpu.pc = 0x0000 ∧
  s.cpu.ime = false ∧ s.cpu.halted = false ∧ s.cpu.stage = 0 ∧ s.cpu.ei = false ∧ s.cpu.di = false ∧
  s.cpu.ir = .opcode 0x00 ∧ s.cpu.fatal = none ∧
  s.irq.ie = 0 ∧ s.irq.iflag = 0 ∧
  s.timer.div = 0x0000 ∧ s.timer.tima = 0x00 ∧ s.timer.tma = 0x00 ∧ s.timer.tac = 0 ∧
  s.joypad.selAction = false ∧ s.joypad.selDir = false ∧ (∀ button : Button, s.joypad.pressed.get button = false) ∧
  memRead s 0xFF00 = 0x0F ∧
  s.bus.sb = 0x00 ∧ s.bus.sc = 0x00 ∧ s.bus.dma = 0x00 ∧ s.bus.bootOff = false ∧
  s.ppu.lcdc = 0x00 ∧ memRead s 0xFF41 = 0x00 ∧ s.ppu.scy = 0x00 ∧ s.ppu.scx = 0x00 ∧ s.ppu.wy = 0x00 ∧ s.ppu.wx = 0x00 ∧
  s.ppu.ly = 0x00 ∧ s.ppu.lyc = 0x00 ∧ s.ppu.bgp = 0xE4 ∧ s.ppu.obp0 = 0xE4 ∧ s.ppu.obp1 = 0xE4 ∧
  s.ppu.mode = .off ∧ s.ppu.dots = 0 ∧ s.ppu.lineObjs = [] ∧
  (∀ (y x : Nat) (hy : y < 144) (hx : x < 160), s.ppu.frame[y][x] = 0) ∧
  (∀ a : Nat, s.mem.read a = 0x00)

end Sys2Proof.Claims

open Sys2Proof Sys2Proof.Machine Sys2Proof.Claims

/-! ## Encoding -/

/-- Words written out from the spec's encodings decode to the instructions they stand for (30_encoding.md R117 to
R123): one of each family, and the prefix repeated, which is SET 1,E. The encodings are general knowledge by
30_encoding.md's own marks and the spec's decision D2, which bytes are undefined its decision D11 (log 14). -/
def Obligations.WrittenWordsDecode : Prop :=
  decode [0x41, 0x00] = .ok (.ld_b_c, [0x00]) ∧
  decode [0x3E, 0x05, 0x76] = .ok (.ld_a_n 0x05, [0x76]) ∧
  decode [0x31, 0xFE, 0xFF] = .ok (.ld_sp_nn 0xFFFE, []) ∧
  decode [0xB7] = .ok (.or_a, []) ∧
  decode [0x29] = .ok (.add_hl_hl, []) ∧
  decode [0x20, 0xFC] = .ok (.jr_nz_e (-4), []) ∧
  decode [0xCD, 0x34, 0x12] = .ok (.call_nn 0x1234, []) ∧
  decode [0x10, 0x00] = .ok (.stop, []) ∧
  decode [0xCB, 0x7F] = .ok (.bit_7_a, []) ∧
  decode [0xCB, 0xCB] = .ok (.set_1_e, []) ∧
  decode [0xD3] = .ok (.illegal_d3, [])

/-- Decoding what the encoder writes gives the instruction back, with every operand at every value the encoding
admits, and leaves the bytes after it. The encodings are general knowledge by 30_encoding.md's own marks and the
spec's decision D2, the byte order of an immediate its decision D32, the undefined bytes its decision D11 (log 14).
That the encoder writes STOP's second byte as 0x00 is log 13, and that a displacement is an integer log 12. -/
def Obligations.DecodeOfEncodeIsTheInstruction : Prop :=
  ∀ (i : Instr) (rest : List Byte), i.wellFormed = true → decode (encode i ++ rest) = .ok (i, rest)

/-- What decodes is a well-formed instruction, and but for STOP, whose second byte has any value, the bytes read are
the ones the encoder writes; an instruction is 1, 2 or 3 bytes long. The encodings are general knowledge by
30_encoding.md's own marks and the spec's decision D2, the byte order of an immediate its decision D32, the undefined
bytes its decision D11 (log 14). STOP's second byte is log 13, the integer displacement log 12. -/
def Obligations.EncodeOfDecodeIsTheBytes : Prop :=
  ∀ (bytes rest : List Byte) (i : Instr), decode bytes = .ok (i, rest) →
    i.wellFormed = true ∧ 1 ≤ i.length ∧ i.length ≤ 3 ∧
    ∃ read, bytes = read ++ rest ∧ read.length = i.length ∧ (i ≠ .stop → read = encode i)

/-- Every byte value has a defined outcome as a first byte, and exactly the eleven named bytes are undefined
(30_encoding.md R123, R124). Which eleven bytes are undefined is general knowledge by R123's own mark and the spec's
decision D11 (log 14). -/
def Obligations.EveryFirstByteHasAnOutcome : Prop :=
  ∀ (op b1 b2 : Byte) (rest : List Byte), ∃ i rest',
    decode (op :: b1 :: b2 :: rest) = .ok (i, rest') ∧
    ((∃ undefinedByte, (undefinedByte, i) ∈ Instr.undefinedBytes) ↔
      op ∈ ([0xD3, 0xDB, 0xDD, 0xE3, 0xE4, 0xEB, 0xEC, 0xED, 0xF4, 0xFC, 0xFD] : List Byte))

/-! ## The step -/

/-- When the bytes the fetch reads decode to an instruction, the step is that instruction's meaning at the state after
the fetch, and then the end of the last machine cycle (`finish`: none if the machine has stopped). The order of the
boundary is 60_exceptions.md R360 with the spec's decisions D5 and D6, the bytes and their order 30_encoding.md R113
to R115 with its decision D32 (log 14); that a step is an instruction is log 1. -/
def Obligations.StepRunsTheDecodedInstruction : Prop :=
  ∀ (s s' : State) (i : Instr) (rest : List Byte), AtBoundary s → boundary s = .fetch s' →
    decode (fetchedBytes s') = .ok (i, rest) → step s = finish (exec i (fetched s'))

/-- An instruction whose three bytes lie in ROM or in RAM is the one the step runs: the cycles of its fetch change
none of its bytes. The order of the boundary is 60_exceptions.md R360 with the spec's decisions D5 and D6, the bytes
and their order 30_encoding.md R113 to R115 with its decision D32 (log 14); that a step is an instruction is log 1. -/
def Obligations.StepRunsTheInstructionInMemory : Prop :=
  ∀ (s s' : State) (i : Instr) (rest : List Byte), AtBoundary s → boundary s = .fetch s' →
    placeable3 s'.cpu.pc = true →
    decode [memRead s' s'.cpu.pc, memRead s' (s'.cpu.pc + 1), memRead s' (s'.cpu.pc + 2)] = .ok (i, rest) →
    step s = finish (exec i (fetched s')) ∧ (fetched s').cpu.pc = s'.cpu.pc ∧ (fetched s').cpu.f = s'.cpu.f ∧
    (∀ r, (fetched s').r8 r = s'.r8 r) ∧ (fetched s').cpu.sp = s'.cpu.sp ∧ (fetched s').mem = s'.mem

/-- The placing of a table word puts the word's instruction where the next step fetches it, and that step runs it. The
numbering of a word's bits and where the bytes are placed are the model's own conventions (log 8, log 9). The boundary
is by the spec's decisions D5 and D6 (log 14). -/
def Obligations.PlacedWordRuns : Prop :=
  ∀ (s : State) (nbits w : Nat) (i : Instr), decodeTableWord nbits w = some i →
    ∃ s', boundary (s.withFetchWord nbits w) = .fetch s' ∧ (fetched s').latched = i ∧
      step (s.withFetchWord nbits w) = finish (exec i (fetched s'))

/-- A step from an instruction boundary is exactly the machine cycles the opcode table counts, each one the spec's
`SystemStep` (00_scope.md R8) with the host's turn after it: one for a halted CPU, five for a dispatch, the row's
number for an instruction, by the path its condition takes. A `SystemStep` of a running machine is the CPU's part,
then one tick of the timer, then one `PpuAdvance`; the cycle that finds an undefined opcode has the CPU's part only,
and a stopped machine has none (R8, 70_reset_and_hazards.md R412). Every step answers a next state: no instruction, no
operand and no state, at a boundary or not, ends in a fault or a refusal. That a step is an instruction is the model's
choice (log 1), and so is that a stopped machine is a state with a step (log 11); the numbers are those of
70_reset_and_hazards.md R421 and R422, the spec's decision D3 (log 14). The order inside a cycle is the spec's
decision D1, the fatal state's D11 and D39, the boundary's D5 and D6. -/
def Obligations.StepIsTheTabledMachineCycles : Prop :=
  (∀ s : State, AtBoundary s → step s = .next (machineCyclesFrom (cyclesOfStep s) s)) ∧
  (∀ s : State, s.cpu.fatal = none →
    ((cpuStep s).cpu.fatal = none →
      systemStep s = ppuAdvance (timerTick (cpuStep s)) ∧ machineCycle s = hostTurn (systemStep s)) ∧
    ((cpuStep s).cpu.fatal ≠ none → systemStep s = cpuStep s ∧ machineCycle s = systemStep s)) ∧
  (∀ s : State, s.cpu.fatal ≠ none → systemStep s = s ∧ machineCycle s = s) ∧
  (∀ s : State, ∃ t, step s = .next t)

/-! ## Invariants -/

/-- Every step keeps the invariant of the machine, from every state that has it. Its clauses on LY and the modes rest
on the spec's decisions D22 and D23, on STAT's mode bits D15, D24 and D25, on the `di` latch D7 (log 14); the
canonical form of storage is log 2, the grain of a step log 1. -/
def Obligations.EveryStepKeepsTheInvariant : Prop := ∀ s t : State, s.Inv → step s = .next t → t.Inv

/-- Every single machine cycle keeps the invariant too, in the middle of an instruction or a dispatch as at its
boundary. The order inside a cycle is the spec's decision D1; the clauses rest on the decisions named for a step (D7,
D15, D22 to D25, log 14) and on log 2. -/
def Obligations.EveryMachineCycleKeepsTheInvariant : Prop := ∀ s : State, s.Inv → (machineCycle s).Inv

/-- The reset state has the invariant. The reset values are the spec's decision D12 (log 14), the ROM contents and
parameters of reset log 2 and 3. -/
def Obligations.ResetHasTheInvariant : Prop := State.reset.Inv

/-- The reset values of the table of 70_reset_and_hazards.md R401, in `State.reset` and in every machine constructed from
its parameters, whose ROMs are the images. The values are the spec's own decision D12. -/
def Obligations.ResetValues : Prop :=
  AtReset State.reset ∧
  ∀ (boot cart : List Byte) (p : Params) (s : State), State.construct boot cart p = .ok s →
    AtReset s ∧ (∀ a, a < 256 → s.bootRom.read a = boot.getD a 0) ∧
      (∀ a, a < 32768 → s.cartRom.read a = cart.getD a 0)

/-- A machine constructed from images of the right sizes is the reset machine with those images behind the bus and those
parameters, and has the invariant; images of another size are refused before a machine exists (00_scope.md R6,
70_reset_and_hazards.md R400). The refusal of another size is the spec's decision D36, for the boot image by 90_conflicts.md
C6; the reset values are its decision D12 (log 14), and those of the fields it gives none are the model's choice (log 4, 5
and 6). -/
def Obligations.ConstructedMachineHasTheInvariant : Prop :=
  (∀ (boot cart : List Byte) (p : Params), boot.length = 256 → cart.length = 32768 →
    ∃ s, State.construct boot cart p = .ok s ∧ s.Inv ∧ s.params = p ∧
      { s with bootRom := [], cartRom := [], params := Params.default } = State.reset ∧
      (∀ a : Word, a.toNat < 256 → memRead s a = boot.getD a.toNat 0) ∧
      (∀ a : Word, 256 ≤ a.toNat → a.toNat < 32768 → memRead s a = cart.getD a.toNat 0) ∧
      (∀ a, a < 32768 → s.cartRom.read a = cart.getD a 0)) ∧
  (∀ (boot cart : List Byte) (p : Params), boot.length ≠ 256 ∨ cart.length ≠ 32768 →
    State.construct boot cart p = .error .malformedRom)

/-! ## Rules of the whole machine -/

/-- The parameters of the run and the contents of both ROMs never change. Once the boot ROM is unmapped no step maps
it again, and from then on the addresses below 0x0100 read the cartridge. (10_state.md R54, R60, R61, 20_memory.md
R87.) The latch is the spec's decisions D14 and D20, ROM without effect on writes D17 (log 14); that parameters and
ROM contents stand in the state is log 2 and 3. -/
def Obligations.RomAndParametersNeverChange : Prop :=
  ∀ s t : State, step s = .next t →
    t.params = s.params ∧ t.bootRom = s.bootRom ∧ t.cartRom = s.cartRom ∧
    (s.bus.bootOff = true →
      t.bus.bootOff = true ∧ ∀ a : Word, a.toNat ≤ 0x00FF → memRead t a = s.cartRom.read a.toNat)

/-- A stopped machine never steps again, takes no line change and keeps its diagnostic (60_exceptions.md R351, the
spec's decision D11, log 14). That it is a state, whose step answers that state, is the model's choice (log 11). That
nothing runs in it is also decision D39. -/
def Obligations.StoppedMachineIsFinal : Prop :=
  ∀ (s : State) (d : Byte × Word), s.cpu.fatal = some d →
    step s = .next s ∧ systemStep s = s ∧ (∀ c, joypadSet s c = s) ∧ s.diagnostic = some (.undefinedOpcode d.1 d.2)

/-- An undefined first byte stops the machine inside its fetch cycle: `fatal` holds the byte and its address, PC keeps
it, nothing else changes, the timer and the PPU do not tick, and no later step changes anything (46_system.md R288,
60_exceptions.md R351). Which bytes are undefined is general knowledge by R288's own mark, and the state left is the
spec's decision D11. That nothing ticks once fatal is its decision D39 (log 14); that a stopped machine has a step is
log 11. -/
def Obligations.UndefinedByteStopsTheMachine : Prop :=
  ∀ (op : Byte) (i : Instr), (op, i) ∈ Instr.undefinedBytes →
    TableRow i [op] 1 ∧
    (∀ s, exec i s = .next { s with cpu := { s.cpu with fatal := some (op, s.cpu.pc) } }) ∧
    (∀ s s', AtBoundary s → boundary s = .fetch s' → memRead s' s'.cpu.pc = op →
      let stopped : State := { s' with cpu := { s'.cpu with ir := .opcode op, fatal := some (op, s'.cpu.pc) } }
      step s = .next stopped ∧ step stopped = .next stopped ∧ systemStep stopped = stopped)

/-- Which instructions can change the control state: IME only DI and RETI, `halted` only HALT, the `ei` latch is set
only by EI, `fatal` only by an undefined byte or STOP, and SP only by the instructions of 10_state.md R23. DI is by
the spec's decision D7, RETI by D10, HALT by D5, EI by D6, the undefined bytes by D11 and STOP by D9 (log 14). -/
def Obligations.ControlStateWriters : Prop :=
  ∀ (i : Instr) (s t : State), exec i s = .next t →
    (i ≠ .di → i ≠ .reti → t.cpu.ime = s.cpu.ime) ∧
    (i ≠ .halt → t.cpu.halted = s.cpu.halted) ∧
    (s.cpu.ei = false → t.cpu.ei = true → i = .ei) ∧
    (t.cpu.fatal ≠ s.cpu.fatal → i = .stop ∨ ∃ op, (op, i) ∈ Instr.undefinedBytes) ∧
    (writesSp i = false → t.cpu.sp = s.cpu.sp)

/-- The frame of every instruction outside the CPU: a storage byte changes only if the instruction stores to an
address that names it (or starts an OAM DMA), and no register of the bus changes unless the instruction stores to a
register address. A form that stores nothing changes no byte. As the CPU reads it, a byte of RAM or ROM is unchanged
unless the instruction stores to it, in RAM, or to the boot latch, for ROM. (20_memory.md R71 to R87.) The regions are
by the spec's decisions D14, D16 to D18, OAM DMA by D19, the latch by D20, I/O registers by D15, D25 and D42 (log 14).
-/
def Obligations.InstructionFrame : Prop :=
  ∀ (i : Instr) (s t : State), exec i s = .next t →
    (∀ k, (∀ a ∈ storesOf i s, storageCell a ≠ some k) →
      ((0xFF46 : Word) ∈ storesOf i s → k < 0xFE00 ∨ 0xFE9F < k) → t.mem.read k = s.mem.read k) ∧
    ((∀ a ∈ storesOf i s, isRegister a = false) →
      t.bus = s.bus ∧ t.irq.ie = s.irq.ie ∧ t.timer.tma = s.timer.tma ∧ t.timer.tac = s.timer.tac ∧
      t.joypad.selAction = s.joypad.selAction ∧ t.joypad.selDir = s.joypad.selDir ∧ t.ppu.lcdc = s.ppu.lcdc ∧
      t.ppu.statEnables = s.ppu.statEnables ∧ t.ppu.scy = s.ppu.scy ∧ t.ppu.scx = s.ppu.scx ∧ t.ppu.wy = s.ppu.wy ∧
      t.ppu.wx = s.ppu.wx ∧ t.ppu.lyc = s.ppu.lyc ∧ t.ppu.bgp = s.ppu.bgp ∧ t.ppu.obp0 = s.ppu.obp0 ∧
      t.ppu.obp1 = s.ppu.obp1) ∧
    (storesOf i s = [] → t.mem = s.mem) ∧
    (∀ a k, regionOf a = .ram k → (∀ b ∈ storesOf i s, storageCell b ≠ some k) → memRead t a = memRead s a) ∧
    (∀ a : Word, a.toNat ≤ 0x7FFF → (0xFF50 : Word) ∉ storesOf i s → memRead t a = memRead s a)

/-! ## Memory and the bus -/

/-- Canonical storage is determined by what it reads: equal memories are equal data. The canonical form is the model's
own (log 2). -/
def Obligations.CanonicalMemoryIsDetermined : Prop :=
  ∀ m m' : Memory, m.wf = true → m'.wf = true → (∀ a, m.read a = m'.read a) → m = m'

/-- External RAM, working RAM and high RAM are plain storage, and 0xE000 to 0xFDFF is the same storage as the address
0x2000 below, for reads and for writes (20_memory.md R81 to R83, R85). How far the echo
reaches is the spec's decision D18, and that the external RAM is there and always enabled its decision D17 (log 14). -/
def Obligations.RamAndItsEcho : Prop :=
  (∀ (s : State) (a b : Word) (v : Byte) (k l : Nat), regionOf a = .ram k → regionOf b = .ram l →
    memRead (memWrite s a v) b = if l = k then v else memRead s b) ∧
  (∀ a : Word, 0xA000 ≤ a.toNat → a.toNat ≤ 0xDFFF → regionOf a = .ram a.toNat) ∧
  (∀ a : Word, 0xFF80 ≤ a.toNat → a.toNat ≤ 0xFFFE → regionOf a = .ram a.toNat) ∧
  (∀ (s : State) (a : Word) (v : Byte), 0xE000 ≤ a.toNat → a.toNat ≤ 0xFDFF →
    memRead s a = memRead s (a - 0x2000) ∧ memWrite s a v = memWrite s (a - 0x2000) v)

/-- The gates: VRAM is closed in Mode3, OAM in Mode2 and Mode3; a closed region reads 0xFF and drops writes, an open one
is plain storage (20_memory.md R78, R80). -/
def Obligations.PpuGates : Prop :=
  (∀ (s : State) (a : Word) (v : Byte), 0x8000 ≤ a.toNat → a.toNat ≤ 0x9FFF →
    (s.ppu.mode = .mode3 → memRead s a = 0xFF ∧ memWrite s a v = s) ∧
    (s.ppu.mode ≠ .mode3 →
      memRead s a = s.mem.read a.toNat ∧ memWrite s a v = { s with mem := s.mem.write a.toNat v })) ∧
  (∀ (s : State) (a : Word) (v : Byte), 0xFE00 ≤ a.toNat → a.toNat ≤ 0xFE9F →
    (s.ppu.mode = .mode2 ∨ s.ppu.mode = .mode3 → memRead s a = 0xFF ∧ memWrite s a v = s) ∧
    (s.ppu.mode ≠ .mode2 ∧ s.ppu.mode ≠ .mode3 →
      memRead s a = s.mem.read a.toNat ∧ memWrite s a v = { s with mem := s.mem.write a.toNat v }))

/-- A write to ROM changes no state, with the boot ROM mapped or not; the unmapped range reads 0 and ignores writes
(20_memory.md R76, the spec's decision D17, log 14, and R84). -/
def Obligations.RomAndUnmappedIgnoreWrites : Prop :=
  (∀ (s : State) (a : Word) (v : Byte), a.toNat ≤ 0x7FFF → memWrite s a v = s) ∧
  (∀ (s : State) (a : Word) (v : Byte), 0xFEA0 ≤ a.toNat → a.toNat ≤ 0xFEFF → memRead s a = 0x00 ∧ memWrite s a v = s)

/-- OAM DMA: a value at most 0xDF copies 160 bytes, read through the gates, into OAM past its gate; a greater value is
stored and copies nothing; no other byte and no other register changes (20_memory.md R86 with the spec's decision
D19). -/
def Obligations.OamDmaCopies160Bytes : Prop :=
  ∀ (s : State) (v : Byte),
    (v.toNat ≤ 0xDF →
      (∀ k, k < 160 →
        (memWrite s 0xFF46 v).mem.read (0xFE00 + k) = memRead s (BitVec.ofNat 16 (256 * v.toNat + k))) ∧
      (∀ a, a < 0xFE00 ∨ 0xFE9F < a → (memWrite s 0xFF46 v).mem.read a = s.mem.read a)) ∧
    (0xDF < v.toNat → (memWrite s 0xFF46 v).mem = s.mem) ∧
    memWrite s 0xFF46 v = { s with bus := { s.bus with dma := v }, mem := (memWrite s 0xFF46 v).mem }

/-- Reading an I/O register back after writing it gives the defined bits of the value written, bits 2:0 of STAT and the
line bits of JOYP apart: the first stay the PPU's, and a line bit is 0 exactly if a pressed button of a selected group
stands on it. LY ignores the write, DIV is cleared by it, the boot latch goes to 1 on a nonzero value, never back, and
reads in bit 0. An address of the block with no register reads 0x00 and ignores writes (10_state.md R37 to R54). These are
the spec's own decisions (log 14): the addresses and layouts D14, the masks D15 and D42, the storage stubs and the addresses
with no register D16, OAM DMA's read-back D19, the latch D20, STAT, LY and LYC D25, the unused LCDC bits D27, the lines D31,
the serial stub D41. -/
def Obligations.IoReadBack : Prop :=
  ∀ (s : State) (v : Byte),
    (∀ a ∈ ([0xFF01, 0xFF02, 0xFF05, 0xFF06, 0xFF40, 0xFF42, 0xFF43, 0xFF45, 0xFF46, 0xFF47, 0xFF48, 0xFF49, 0xFF4A,
        0xFF4B] : List Word), memRead (memWrite s a v) a = v) ∧
    (∀ a : Word, 0xFF10 ≤ a.toNat → a.toNat ≤ 0xFF3F → memRead (memWrite s a v) a = v) ∧
    memRead (memWrite s 0xFF07 v) 0xFF07 = v &&& 0x07 ∧
    memRead (memWrite s 0xFF0F v) 0xFF0F = v &&& 0x1F ∧
    memRead (memWrite s 0xFFFF v) 0xFFFF = v &&& 0x1F ∧
    memRead (memWrite s 0xFF41 v) 0xFF41 &&& 0xF8 = v &&& 0x78 ∧
    memRead (memWrite s 0xFF41 v) 0xFF41 &&& 0x07 = memRead s 0xFF41 &&& 0x07 ∧
    memRead (memWrite s 0xFF00 v) 0xFF00 &&& 0xF0 = v &&& 0x30 ∧
    memRead (memWrite s 0xFF04 v) 0xFF04 = 0x00 ∧
    (∀ (k : Nat) (direction action : Button),
      (k, direction, action) ∈
          ([(0, .right, .a), (1, .left, .b), (2, .up, .select), (3, .down, .start)] : List (Nat × Button × Button)) →
        ((memRead (memWrite s 0xFF00 v) 0xFF00).getLsbD k = false ↔
          (v.getLsbD 4 = false ∧ s.joypad.pressed.get direction = true) ∨
          (v.getLsbD 5 = false ∧ s.joypad.pressed.get action = true))) ∧
    memRead s 0xFF44 = s.ppu.ly ∧ memWrite s 0xFF44 v = s ∧
    (memWrite s 0xFF50 v).bus.bootOff = (s.bus.bootOff || v != 0) ∧
    memRead (memWrite s 0xFF50 v) 0xFF50 = (if s.bus.bootOff = true ∨ v ≠ 0 then 0x01 else 0x00) ∧
    (∀ a : Word,
      a = 0xFF03 ∨ (0xFF08 ≤ a.toNat ∧ a.toNat ≤ 0xFF0E) ∨ (0xFF4C ≤ a.toNat ∧ a.toNat ≤ 0xFF4F) ∨
        (0xFF51 ≤ a.toNat ∧ a.toNat ≤ 0xFF7F) →
      memRead s a = 0x00 ∧ memWrite s a v = s)

/-! ## The devices -/

/-- What ends a machine cycle is one tick of the timer, then one `PpuAdvance`, then the host's turn, which makes the
changes due in their order (00_scope.md R8, 70_reset_and_hazards.md R412, the spec's decisions D1 and D39;
60_exceptions.md R378). Between two machine cycles the devices and the host clear no pending bit, request the serial
interrupt never, change no enable bit and no byte of storage, and leave the CPU as it is (60_exceptions.md R355, R356;
10_state.md R24). That nothing requests the serial interrupt is the spec's decision D41, and that only the CPU's
writes and a dispatch clear a pending bit D42 (log 14); that the host's turn is part of the end of a cycle is the
model's choice (log 4). -/
def Obligations.DevicesOnlyRaiseRequests : Prop :=
  ∀ s : State,
    endCycle s = hostTurn (ppuAdvance (timerTick s)) ∧
    (s.hostQueue = [] → hostTurn s = s) ∧
    (∀ changes rest, s.hostQueue = changes :: rest → hostTurn s = changes.foldl joypadSet { s with hostQueue := rest }) ∧
    (∀ k : Nat, s.irq.iflag.getLsbD k = true → (endCycle s).irq.iflag.getLsbD k = true) ∧
    (endCycle s).irq.iflag.getLsbD 3 = s.irq.iflag.getLsbD 3 ∧ (endCycle s).irq.ie = s.irq.ie ∧
    (endCycle s).mem = s.mem ∧ (endCycle s).cpu = s.cpu

/-- The timer's tick: the counter goes on by 4; with the timer enabled and the low bits of the counter wrapping, TIMA goes
up by one, or from 0xFF to TMA with a timer request in the same tick (60_exceptions.md R366, R367 with the spec's decision
D21). -/
def Obligations.TimerTicks : Prop :=
  ∀ s : State,
    let old := s.timer.div.toNat
    let p := ([1024, 16, 64, 256] : List Nat).getD (s.timer.tac.toNat % 4) 0
    let t := timerTick s
    t.timer.div.toNat = (old + 4) % 65536 ∧
    (s.timer.tac.toNat < 4 ∨ old % p + 4 < p → t.timer.tima = s.timer.tima ∧ t.irq = s.irq) ∧
    (4 ≤ s.timer.tac.toNat → p ≤ old % p + 4 → s.timer.tima ≠ 0xFF →
      t.timer.tima.toNat = s.timer.tima.toNat + 1 ∧ t.irq = s.irq) ∧
    (4 ≤ s.timer.tac.toNat → p ≤ old % p + 4 → s.timer.tima = 0xFF →
      t.timer.tima = s.timer.tma ∧ t.irq = { s.irq with iflag := s.irq.iflag ||| 0b00100 }) ∧
    t = { s with timer := { s.timer with div := t.timer.div, tima := t.timer.tima }, irq := t.irq }

/-- The modes last 20, 43, 51 and 1140 calls of `PpuAdvance` with the LCD on, `dots` counting by four from 0; the line
number changes only at the exits of Mode0 and Mode1, and line 144 begins Mode1 (50_ppu.md R302, and R305 by the spec's
decision D22, log 14). Inside Mode1 it stays, or with the parameter set it counts from 144 every 456 dots (R309, decision
D23). -/
def Obligations.PpuModeDurations : Prop :=
  ∀ s : State, s.ppu.lcdEn = true → s.ppu.dots = 0 →
    (s.ppu.mode = .mode2 →
      (∀ n, n < 20 → (ppuCalls n s).ppu.mode = .mode2 ∧ (ppuCalls n s).ppu.dots = 4 * n ∧
        (ppuCalls n s).ppu.ly = s.ppu.ly) ∧
      (ppuCalls 20 s).ppu.mode = .mode3 ∧ (ppuCalls 20 s).ppu.dots = 0 ∧ (ppuCalls 20 s).ppu.ly = s.ppu.ly) ∧
    (s.ppu.mode = .mode3 →
      (∀ n, n < 43 → (ppuCalls n s).ppu.mode = .mode3 ∧ (ppuCalls n s).ppu.dots = 4 * n ∧
        (ppuCalls n s).ppu.ly = s.ppu.ly) ∧
      (ppuCalls 43 s).ppu.mode = .mode0 ∧ (ppuCalls 43 s).ppu.dots = 0 ∧ (ppuCalls 43 s).ppu.ly = s.ppu.ly) ∧
    (s.ppu.mode = .mode0 →
      (∀ n, n < 51 → (ppuCalls n s).ppu.mode = .mode0 ∧ (ppuCalls n s).ppu.dots = 4 * n ∧
        (ppuCalls n s).ppu.ly = s.ppu.ly) ∧
      (ppuCalls 51 s).ppu.mode = (if s.ppu.ly = 143 then .mode1 else .mode2) ∧ (ppuCalls 51 s).ppu.dots = 0 ∧
      (ppuCalls 51 s).ppu.ly = s.ppu.ly + 1) ∧
    (s.ppu.mode = .mode1 →
      (∀ n, n < 1140 → (ppuCalls n s).ppu.mode = .mode1 ∧ (ppuCalls n s).ppu.dots = 4 * n ∧
        (s.params.vblankLyCounts = false → (ppuCalls n s).ppu.ly = s.ppu.ly) ∧
        (s.params.vblankLyCounts = true → s.ppu.ly = 144 → (ppuCalls n s).ppu.ly.toNat = 144 + 4 * n / 456)) ∧
      (ppuCalls 1140 s).ppu.mode = .mode2 ∧ (ppuCalls 1140 s).ppu.dots = 0 ∧ (ppuCalls 1140 s).ppu.ly = 0)

/-- LCD off: whatever the mode, `PpuAdvance` idles in Off, with `dots` and the STAT mode bits 0 and everything else kept,
and neither gate of the bus is closed (50_ppu.md R306 with the spec's decision D22). -/
def Obligations.LcdOffIdles : Prop :=
  ∀ s : State, s.ppu.lcdEn = false →
    ppuAdvance s = { s with ppu := { s.ppu with mode := .off, dots := 0, statMode := 0 } } ∧
    (∀ (a : Word) (v : Byte), 0x8000 ≤ a.toNat ∧ a.toNat ≤ 0x9FFF ∨ 0xFE00 ≤ a.toNat ∧ a.toNat ≤ 0xFE9F →
      memRead (memWrite (ppuAdvance s) a v) a = v)

/-- LCD on: the first `PpuAdvance` enters Mode2 at scanline 0 through `StatUpdate`; that Mode2 lasts the 20 calls after
it, and the first vblank request comes 16416 calls after it (50_ppu.md R307 with the spec's decision D22). -/
def Obligations.LcdOnStartsAFrame : Prop :=
  ∀ s : State, s.ppu.lcdEn = true → s.ppu.mode = .off →
    let t := ppuAdvance s
    t = statUpdate .mode2 { s with ppu := { s.ppu with mode := .mode2, ly := 0, dots := 0 } } ∧
    (∀ n, n < 20 → (ppuCalls n t).ppu.mode = .mode2) ∧ (ppuCalls 20 t).ppu.mode = .mode3 ∧
    (∀ n, n < 16416 → (ppuCalls n t).irq.iflag.getLsbD 0 = s.irq.iflag.getLsbD 0) ∧
    (ppuCalls 16416 t).ppu.mode = .mode1 ∧ (ppuCalls 16416 t).irq.iflag.getLsbD 0 = true

/-- `StatUpdate`: the coincidence flag, the mode bits, and one LCD-status request if LY = LYC or the mode entered has
its source enabled; nothing else changes. Every mode change with the LCD on ends in it, with the mode just entered, LY
updated before, and LYC, the STAT enables and every request but vblank's as they were; a call that changes no mode
requests nothing and compares nothing (50_ppu.md R310 with the spec's decision D24). -/
def Obligations.StatUpdateRequests : Prop :=
  (∀ s : State, s.ppu.lcdEn = true → (ppuAdvance s).ppu.mode ≠ s.ppu.mode →
    ∃ u, ppuAdvance s = statUpdate (ppuAdvance s).ppu.mode u ∧ u.ppu.mode = (ppuAdvance s).ppu.mode ∧
      u.ppu.ly = (ppuAdvance s).ppu.ly ∧ u.ppu.lyc = s.ppu.lyc ∧ u.ppu.statEnables = s.ppu.statEnables ∧
      u.irq.ie = s.irq.ie ∧ ∀ k : Nat, k ≠ 0 → u.irq.iflag.getLsbD k = s.irq.iflag.getLsbD k) ∧
  (∀ s : State, (ppuAdvance s).ppu.mode = s.ppu.mode →
    (ppuAdvance s).irq = s.irq ∧ (ppuAdvance s).ppu.coincidence = s.ppu.coincidence ∧
      (s.ppu.lcdEn = true → (ppuAdvance s).ppu.statMode = s.ppu.statMode)) ∧
  ∀ (m : PpuMode) (s : State),
    let t := statUpdate m s
    let asked : Prop :=
      (s.ppu.ly = s.ppu.lyc ∧ s.ppu.statEnables.getLsbD 3 = true) ∨
      (m = .mode0 ∧ s.ppu.statEnables.getLsbD 0 = true) ∨ (m = .mode1 ∧ s.ppu.statEnables.getLsbD 1 = true) ∨
      (m = .mode2 ∧ s.ppu.statEnables.getLsbD 2 = true)
    (t.ppu.coincidence = true ↔ s.ppu.ly = s.ppu.lyc) ∧
    (m = .mode0 → t.ppu.statMode = 0) ∧ (m = .mode1 → t.ppu.statMode = 1) ∧ (m = .mode2 → t.ppu.statMode = 2) ∧
    (m = .mode3 → t.ppu.statMode = 3) ∧
    (asked → t.irq.iflag = s.irq.iflag ||| 0b00010) ∧ (¬asked → t.irq = s.irq) ∧
    t = { s with
          ppu := { s.ppu with coincidence := t.ppu.coincidence, statMode := t.ppu.statMode }
          irq := { s.irq with iflag := t.irq.iflag } }

/-- The exit of Mode0: LY plus 1; at line 144 Mode1 with a vblank request whatever STAT and IE hold, else Mode2 and no
vblank request. With STAT's Mode1 enable set the same mode change also requests LCD-status. No other call of `PpuAdvance`
requests vblank or enters Mode1, so it is once per frame (50_ppu.md R312). The step of LY and the mode that follows are the
spec's decisions D1 and D22 (R304, R305), the LCD-status request its decision D24 (R310, log 14). -/
def Obligations.VblankRequestedOnce : Prop :=
  (∀ s : State, (s.irq.iflag.getLsbD 0 = false ∧ (ppuAdvance s).irq.iflag.getLsbD 0 = true) ∨
      (s.ppu.mode ≠ .mode1 ∧ (ppuAdvance s).ppu.mode = .mode1) →
    s.ppu.lcdEn = true ∧ s.ppu.mode = .mode0 ∧ 200 ≤ s.ppu.dots ∧ s.ppu.ly = 143) ∧
  ∀ s : State, s.ppu.lcdEn = true → s.ppu.mode = .mode0 → 200 ≤ s.ppu.dots →
    (s.ppu.ly = 143 →
      (ppuAdvance s).ppu.mode = .mode1 ∧ (ppuAdvance s).ppu.ly = 144 ∧ (ppuAdvance s).irq.iflag.getLsbD 0 = true ∧
      (s.ppu.statEnables.getLsbD 1 = true → (ppuAdvance s).irq.iflag.getLsbD 1 = true)) ∧
    (s.ppu.ly ≠ 143 →
      (ppuAdvance s).ppu.mode = .mode2 ∧ (ppuAdvance s).ppu.ly = s.ppu.ly + 1 ∧
      (ppuAdvance s).irq.iflag.getLsbD 0 = s.irq.iflag.getLsbD 0)

/-- The object search: the entries on the scanline among which fewer than ten of lower index are, at most ten, drawn
from the largest x to the smallest, and for equal x from the larger index to the smaller (50_ppu.md R314, R315; the
tie rule is the spec's decision D30). The span, the cap and the OAM layout are its decisions D30 and D14, that no LCDC
bit hides the sprites D27 (log 14). -/
def Obligations.ObjectSearchOrder : Prop :=
  ∀ s : State,
    (objectSearch s).length ≤ 10 ∧
    (∀ i : Fin 40, i ∈ objectSearch s ↔
      OnLine s i ∧ ((List.finRange 40).filter fun j => decide (j < i) && spriteOnLine s j).length < 10) ∧
    (∀ i : Fin 40, spriteOnLine s i = true ↔ OnLine s i) ∧
    (objectSearch s).Pairwise fun i j => objX s j < objX s i ∨ (objX s i = objX s j ∧ j < i)

/-- One sprite drawn over a row: a pixel inside the sprite's eight columns with a color number other than 0 is
overwritten through the selected palette if the priority flag is clear or the pixel is white; no other pixel changes
(50_ppu.md R330 to R334 with the spec's decisions D28 to D30). `k` is the sprite's column at screen position `x`. The
layout of OAM and VRAM is its decision D14 and general knowledge by R330's mark (log 14). -/
def Obligations.SpriteOverwritesOnlyItsPixels : Prop :=
  ∀ (s : State) (row : Row) (i : Fin 40) (x : Nat) (h : x < 160),
    let attr := s.mem.read (0xFE00 + 4 * i.val + 3)
    let k := x + 8 - objX s i
    let c := spritePixel s i k
    let palette := if attr.getLsbD 4 then s.ppu.obp1 else s.ppu.obp0
    ((drawSprite s row i)[x]).toNat =
      if objX s i ≤ x + 8 ∧ x + 8 < objX s i + 8 ∧ c ≠ 0 ∧ (attr.getLsbD 7 = false ∨ row[x] = 0) then
        palette.toNat / 4 ^ c % 4
      else (row[x]).toNat

/-- Pixel `x` of the background and window row: column `x + SCX mod 8` of the untrimmed row; the window's pixel where
the window is on, its line has come and the column is at least WX - 7 over the integers, else background pixel `(SCX +
x) mod 256` of line `(SCY + LY) mod 256`; its color number through the background palette (50_ppu.md R322 to R328 with
the spec's decisions D14, D26, D27). The tile and map layout is general knowledge by the marks of R323, R325 and R326.
-/
def Obligations.BackgroundAndWindow : Prop :=
  ∀ (s : State) (x : Nat) (h : x < 160),
    let q := x + s.ppu.scx.toNat % 8
    let window : Prop :=
      s.ppu.lcdc.getLsbD 5 = true ∧ s.ppu.wy.toNat ≤ s.ppu.ly.toNat ∧ (s.ppu.wx.toNat : Int) - 7 ≤ q
    let map (k : Nat) : Nat := if s.ppu.lcdc.getLsbD k then 0x9C00 else 0x9800
    let shade (c : Nat) : Nat := s.ppu.bgp.toNat / 4 ^ c % 4
    (window → ((backgroundRow s)[x]).toNat =
      shade (tilePixel s (map 6) (q + 7 - s.ppu.wx.toNat) (s.ppu.ly.toNat - s.ppu.wy.toNat))) ∧
    (¬window → ((backgroundRow s)[x]).toNat =
      shade (tilePixel s (map 3) ((s.ppu.scx.toNat + x) % 256) ((s.ppu.scy.toNat + s.ppu.ly.toNat) % 256)))

/-- The drawing of a line. `drawLine` on a visible line makes the row the background and window leave, overwritten by
the sprites of `line_objs` in list order, stores it in the frame at LY, hands it out and changes nothing else
(50_ppu.md R320, R329, R335). `PpuAdvance` searches the objects at the exit of Mode2 and only there, and draws at the
exit of Mode3 and only there; every other call, with the LCD on or off, leaves the frame, the rows handed out and
`line_objs` as they were (R304, R306, R314). The source's end-to-end property follows: with the palette 0xE4, VRAM and
OAM blank, the search and the drawing of a visible scanline hand out a row of 160 white pixels, which is the row
stored in the frame (R336). The frame and the event are the spec's decision D40 (R335), the passes its decisions D26,
D27 and D30, the calls its decisions D1 and D22 (log 14); that the rows handed out are kept in the state is the
model's choice (log 5). -/
def Obligations.BlankScreenIsWhite : Prop :=
  (∀ (s : State) (h : s.ppu.ly.toNat < 144),
    let row : Row := s.ppu.lineObjs.foldl (drawSprite s) (backgroundRow s)
    drawLine s = { s with
      ppu := { s.ppu with frame := s.ppu.frame.set s.ppu.ly.toNat row }
      rowsReady := s.rowsReady ++ [{ ly := s.ppu.ly, row := row }] }) ∧
  (∀ s : State,
    let searches : Prop := s.ppu.lcdEn = true ∧ s.ppu.mode = .mode2 ∧ 80 ≤ s.ppu.dots + 4
    let draws : Prop := s.ppu.lcdEn = true ∧ s.ppu.mode = .mode3 ∧ 172 ≤ s.ppu.dots + 4
    let t := ppuAdvance s
    (searches → t.ppu.mode = .mode3 ∧ t.ppu.lineObjs = objectSearch s) ∧
    (draws → t.ppu.mode = .mode0 ∧ t.ppu.frame = (drawLine s).ppu.frame ∧ t.rowsReady = (drawLine s).rowsReady) ∧
    (¬searches → t.ppu.lineObjs = s.ppu.lineObjs) ∧
    (¬draws → t.ppu.frame = s.ppu.frame ∧ t.rowsReady = s.rowsReady)) ∧
  ∀ (s : State) (h : s.ppu.ly.toNat < 144), s.ppu.bgp = 0xE4 →
    (∀ a, 0x8000 ≤ a → a ≤ 0x9FFF → s.mem.read a = 0) → (∀ a, 0xFE00 ≤ a → a ≤ 0xFE9F → s.mem.read a = 0) →
    let white : Row := Vector.replicate 160 (0 : Shade)
    (drawLine (searchObjects s)).rowsReady = s.rowsReady ++ [{ ly := s.ppu.ly, row := white }] ∧
    (drawLine (searchObjects s)).ppu.frame = s.ppu.frame.set s.ppu.ly.toNat white

/-- `JoypadSet`: the line takes the new value; a release of a pressed button whose group is selected, and nothing
else, requests the joypad interrupt; a write of JOYP requests nothing, and a stopped machine takes no change
(60_exceptions.md R378 with the spec's decision D31). JOYP's layout is its decisions D14 and D15 (10_state.md R44, log
14). -/
def Obligations.JoypadReleaseRequests : Prop :=
  (∀ (s : State) (v : Byte), (memWrite s 0xFF00 v).irq = s.irq) ∧
  (∀ (s : State) (c : LineChange), s.cpu.fatal ≠ none → joypadSet s c = s) ∧
  ∀ (s : State) (c : LineChange), s.cpu.fatal = none →
    let t := joypadSet s c
    let selected : Prop :=
      (c.button ∈ ([.right, .left, .up, .down] : List Button) ∧ s.joypad.selDir = false) ∨
      (c.button ∈ ([.a, .b, .select, .start] : List Button) ∧ s.joypad.selAction = false)
    t.joypad.pressed.get c.button = c.pressed ∧
    (∀ other, other ≠ c.button → t.joypad.pressed.get other = s.joypad.pressed.get other) ∧
    (s.joypad.pressed.get c.button = true ∧ c.pressed = false ∧ selected →
      t.irq = { s.irq with iflag := s.irq.iflag ||| 0b10000 }) ∧
    (¬(s.joypad.pressed.get c.button = true ∧ c.pressed = false ∧ selected) → t.irq = s.irq) ∧
    t = { s with joypad := { s.joypad with pressed := t.joypad.pressed }, irq := t.irq }

/-! ## Interrupts -/

/-- The interrupt check serves a source exactly when IME is 1 and the source is pending, enabled, and of higher
priority than every other such source; the start of its dispatch leaves the others pending (60_exceptions.md R357,
R359). Where the check stands and what it sees are the spec's decisions D6 and D43 (R357), the start of a dispatch its
decision D8 (R358, log 14). -/
def Obligations.InterruptPriority : Prop :=
  (∀ (s : State) (k j : Source), j ≠ k →
    (acceptInterrupt k s).irq.iflag.getLsbD j.index = s.irq.iflag.getLsbD j.index) ∧
  ∀ (s : State) (k : Source),
    s.servedSource = some k ↔
      s.cpu.ime = true ∧ s.irq.ie.getLsbD k.index = true ∧ s.irq.iflag.getLsbD k.index = true ∧
      ∀ j : Source, j.index < k.index → ¬(s.irq.ie.getLsbD j.index = true ∧ s.irq.iflag.getLsbD j.index = true)

/-- The dispatch of a source: IME, the source's pending bit and the `ei` latch are cleared in its first cycle; PC,
after the wake of a halted CPU, is pushed high byte first in the third and fourth; PC is the source's vector after
five (60_exceptions.md R358 with the spec's decision D8). What the check sees is its decisions D6 and D43 (R357), the
wake D5, the stack's order and wrap D32 and D34 (R176), all log 14; that a dispatch is one step is log 1. -/
def Obligations.InterruptDispatch : Prop :=
  ∀ (s : State) (k : Source), AtBoundary s → (wakeIfHalted s).servedSource = some k →
    let w := wakeIfHalted s
    let m1 : State :=
      { w with
        cpu := { w.cpu with ir := .int k, ime := false, ei := false }
        irq := { w.irq with iflag := w.irq.iflag &&& ~~~(1#5 <<< k.index) } }
    let m4 := pushed w.cpu.pc (between (between m1))
    step s = .next (endCycle ((between m4).retire (BitVec.ofNat 16 (0x0040 + 8 * k.index))))

/-- What a dispatch leaves in the CPU, and in RAM if the stack is there: only PC, SP, IME and the wake change; no
register and no flag is saved or changed (60_exceptions.md R358, R361). The dispatch is by the spec's decision D8, the
wake D5, the return D10, the check D6 and D43 (log 14); that a dispatch is one step is log 1. -/
def Obligations.DispatchSavesOnlyPc : Prop :=
  ∀ (s : State) (k : Source), AtBoundary s → (wakeIfHalted s).servedSource = some k →
    ∃ t, step s = .next t ∧ AtBoundary t ∧
      t.cpu.pc = BitVec.ofNat 16 (0x0040 + 8 * k.index) ∧ t.cpu.sp = s.cpu.sp - 2 ∧
      t.cpu.ime = false ∧ t.cpu.halted = false ∧ t.cpu.ei = false ∧
      (∀ r, t.r8 r = s.r8 r) ∧ t.cpu.f = s.cpu.f ∧
      (∀ hi lo, regionOf (s.cpu.sp - 1) = .ram hi → regionOf (s.cpu.sp - 2) = .ram lo →
        joinBytes (t.mem.read hi) (t.mem.read lo) = (if s.cpu.halted then s.cpu.pc + 1 else s.cpu.pc) ∧
        ∀ a, a ≠ hi → a ≠ lo → t.mem.read a = s.mem.read a)

/-- HALT sets `halted` and leaves PC at its opcode. A halted CPU: with nothing pending and enabled the cycle does
nothing in the CPU; else the CPU wakes over the HALT opcode whatever IME is, and dispatches in that cycle or fetches
the instruction after HALT (46_system.md R282 with the spec's decisions D5, D6). That the devices run while the CPU
sleeps is its decision D39 (log 14). -/
def Obligations.HaltSleepsAndWakes : Prop :=
  (∀ s : State, ∃ t, exec .halt s = .next t ∧ t.cpu.halted = true ∧ t.cpu.pc = s.cpu.pc ∧ t.cpu.stage = 0 ∧
    t.cpu.ei = false) ∧
  ∀ s : State, AtBoundary s → s.cpu.halted = true →
    (s.irq.ie &&& s.irq.iflag = 0 → step s = .next (endCycle s) ∧ (endCycle s).cpu = s.cpu) ∧
    (s.irq.ie &&& s.irq.iflag ≠ 0 → s.cpu.ime = true →
      ∃ k, boundary s = .dispatch k { s with cpu := { s.cpu with halted := false, pc := s.cpu.pc + 1 } }) ∧
    (s.irq.ie &&& s.irq.iflag ≠ 0 → s.cpu.ime = false →
      ∃ s', boundary s = .fetch s' ∧ s'.cpu.pc = s.cpu.pc + 1 ∧ s'.cpu.halted = false ∧ s'.irq = s.irq)

/-- EI takes effect one instruction late: EI leaves IME and sets the latch; the next boundary checks for interrupts
with the IME EI left, then applies the latch before the fetch; the boundary after that instruction, if it is not DI,
can dispatch (46_system.md R285 with the spec's decision D6). The boundary is R360 with D5 and D6 (log 14). -/
def Obligations.EiTakesEffectOneInstructionLate : Prop :=
  (∀ s : State, TableRow .ei [0xFB] 1 ∧
    exec .ei s = .next { s.advance 1 with cpu := { (s.advance 1).cpu with ei := true } }) ∧
  (∀ s : State, AtBoundary s → s.cpu.ei = true → s.cpu.di = false → s.cpu.halted = false → s.servedSource = none →
    boundary s = .fetch { s with cpu := { s.cpu with ime := true, ei := false } }) ∧
  (∀ (i : Instr) (s t : State), exec i s = .next t → s.cpu.ime = true → i ≠ .di → t.cpu.ime = true)

/-! ## 8-bit loads -/

/-- LD r,r' and LD r,n (40_load8.md R141, R142). -/
def Obligations.LoadRegister : Prop :=
  (∀ (dst src : Reg8) (s : State),
    TableRow (Instr.ldRegReg dst src) [byte (0x40 + 8 * reg8 dst + reg8 src)] 1 ∧
    exec (Instr.ldRegReg dst src) s = .next ((s.setR8 dst (s.r8 src)).advance 1)) ∧
  (∀ (r : Reg8) (n : Byte) (s : State),
    TableRow (Instr.ldRegImm r n) [byte (0x06 + 8 * reg8 r), n] 2 ∧
    exec (Instr.ldRegImm r n) s = .next ((s.setR8 r n).advance 2))

/-- The loads from memory: the byte is read one machine cycle after the instruction's last byte, at the address the old
registers give (40_load8.md R143, R146, R147, R150, R152, R154). -/
def Obligations.LoadFromMemory : Prop :=
  ∀ s : State,
    let m := between s
    (∀ r : Reg8,
      TableRow (Instr.ldRegMem r) [byte (0x46 + 8 * reg8 r)] 2 ∧
      exec (Instr.ldRegMem r) s = .next ((m.setR8 r (memRead m s.hl)).advance 1)) ∧
    (TableRow .ld_a_mbc [0x0A] 2 ∧ exec .ld_a_mbc s = .next ((m.setR8 .a (memRead m (joinBytes s.cpu.b s.cpu.c))).advance 1)) ∧
    (TableRow .ld_a_mde [0x1A] 2 ∧ exec .ld_a_mde s = .next ((m.setR8 .a (memRead m (joinBytes s.cpu.d s.cpu.e))).advance 1)) ∧
    (∀ nn : Word,
      TableRow (.ld_a_mnn nn) [0xFA, loByte nn, hiByte nn] 4 ∧
      exec (.ld_a_mnn nn) s = .next ((m.setR8 .a (memRead m nn)).advance 3)) ∧
    (TableRow .ldh_a_mc [0xF2] 2 ∧
      exec .ldh_a_mc s = .next ((m.setR8 .a (memRead m (0xFF00 + s.cpu.c.setWidth 16))).advance 1)) ∧
    (∀ n : Byte,
      TableRow (.ldh_a_mn n) [0xF0, n] 3 ∧
      exec (.ldh_a_mn n) s = .next ((m.setR8 .a (memRead m (0xFF00 + n.setWidth 16))).advance 2))

/-- The stores to memory: the byte is written one machine cycle after the instruction's last byte (40_load8.md R144, R145,
R148, R149, R151, R153, R155). -/
def Obligations.StoreToMemory : Prop :=
  ∀ s : State,
    let m := between s
    (∀ r : Reg8,
      TableRow (Instr.ldMemReg r) [byte (0x70 + reg8 r)] 2 ∧
      exec (Instr.ldMemReg r) s = .next ((memWrite m s.hl (s.r8 r)).advance 1)) ∧
    (∀ n : Byte, TableRow (.ld_mhl_n n) [0x36, n] 3 ∧ exec (.ld_mhl_n n) s = .next ((memWrite m s.hl n).advance 2)) ∧
    (TableRow .ld_mbc_a [0x02] 2 ∧ exec .ld_mbc_a s = .next ((memWrite m (joinBytes s.cpu.b s.cpu.c) s.cpu.a).advance 1)) ∧
    (TableRow .ld_mde_a [0x12] 2 ∧ exec .ld_mde_a s = .next ((memWrite m (joinBytes s.cpu.d s.cpu.e) s.cpu.a).advance 1)) ∧
    (∀ nn : Word,
      TableRow (.ld_mnn_a nn) [0xEA, loByte nn, hiByte nn] 4 ∧
      exec (.ld_mnn_a nn) s = .next ((memWrite m nn s.cpu.a).advance 3)) ∧
    (TableRow .ldh_mc_a [0xE2] 2 ∧
      exec .ldh_mc_a s = .next ((memWrite m (0xFF00 + s.cpu.c.setWidth 16) s.cpu.a).advance 1)) ∧
    (∀ n : Byte,
      TableRow (.ldh_mn_a n) [0xE0, n] 3 ∧
      exec (.ldh_mn_a n) s = .next ((memWrite m (0xFF00 + n.setWidth 16) s.cpu.a).advance 2))

/-- The loads and stores that step HL: the address is HL before the step, and HL steps even when a store is dropped
(40_load8.md R156 to R159). -/
def Obligations.LoadAndStoreStepHl : Prop :=
  ∀ s : State,
    let m := between s
    (TableRow .ld_a_mhld [0x3A] 2 ∧
      exec .ld_a_mhld s = .next (((m.setR8 .a (memRead m s.hl)).setR16 .hl (s.hl - 1)).advance 1)) ∧
    (TableRow .ld_mhld_a [0x32] 2 ∧
      exec .ld_mhld_a s = .next (((memWrite m s.hl s.cpu.a).setR16 .hl (s.hl - 1)).advance 1)) ∧
    (TableRow .ld_a_mhli [0x2A] 2 ∧
      exec .ld_a_mhli s = .next (((m.setR8 .a (memRead m s.hl)).setR16 .hl (s.hl + 1)).advance 1)) ∧
    (TableRow .ld_mhli_a [0x22] 2 ∧
      exec .ld_mhli_a s = .next (((memWrite m s.hl s.cpu.a).setR16 .hl (s.hl + 1)).advance 1))

/-! ## 16-bit loads and the stack -/

/-- LD rr,nn, LD SP,HL and LD (nn),SP, whose two bytes are written low first in two machine cycles
(41_load16_stack.md R170 to R172). -/
def Obligations.LoadPairs : Prop :=
  (∀ (rr : Reg16) (nn : Word) (s : State),
    TableRow (Instr.ldPairImm rr nn) [byte (0x01 + 16 * reg16 rr), loByte nn, hiByte nn] 3 ∧
    exec (Instr.ldPairImm rr nn) s = .next ((s.setR16 rr nn).advance 3)) ∧
  (∀ s : State, TableRow .ld_sp_hl [0xF9] 2 ∧ exec .ld_sp_hl s = .next (((between s).setSp s.hl).advance 1)) ∧
  (∀ (nn : Word) (s : State),
    TableRow (.ld_mnn_sp nn) [0x08, loByte nn, hiByte nn] 5 ∧
    exec (.ld_mnn_sp nn) s =
      .next ((memWrite (between (memWrite (between s) nn (loByte s.cpu.sp))) (nn + 1) (hiByte s.cpu.sp)).advance 3))

/-- PUSH rr writes the high byte at SP-1, then the low byte at SP-2, and AF's low byte has bits 3 to 0 zero; POP rr reads
the low byte at SP, then the high byte at SP+1 one machine cycle later, and POP AF takes the flags from bits 7 to 4 of
the low byte (41_load16_stack.md R173, R174). The layout of F and what POP AF takes are the spec's decision D13 (log 14). -/
def Obligations.PushAndPop : Prop :=
  ∀ (rr : Reg16s) (s : State),
    let lo := memRead (between s) s.cpu.sp
    let m := between (between s)
    let hi := memRead m (s.cpu.sp + 1)
    (TableRow (Instr.push rr) [byte (0xC5 + 16 * reg16s rr)] 4 ∧
      exec (Instr.push rr) s = .next ((pushed (s.r16s rr) m).advance 1) ∧ loByte (s.r16s .af) &&& 0x0F = 0) ∧
    (TableRow (Instr.pop rr) [byte (0xC1 + 16 * reg16s rr)] 3 ∧
      exec (Instr.pop rr) s = .next (((m.setSp (s.cpu.sp + 2)).setR16s rr (joinBytes hi lo)).advance 1) ∧
      (m.setR16s .af (joinBytes hi lo)).cpu.a = hi ∧
      (m.setR16s .af (joinBytes hi lo)).cpu.f =
        { z := lo.getLsbD 7, n := lo.getLsbD 6, h := lo.getLsbD 5, c := lo.getLsbD 4 })

/-- LD HL,SP+e and ADD SP,e: the displacement is sign-extended into the sum and unsigned in both flag sums; Z and N
are cleared (41_load16_stack.md R175, 43_alu16.md R223). The state equality holds for every integer `e`; the encoding
admits -128 to 127. The wrap of SP is the spec's decision D34 (log 14); the integer displacement is log 12. -/
def Obligations.StackPointerPlusDisplacement : Prop :=
  ∀ (e : Int) (s : State),
    let flags (f : Flags) : Prop :=
      FlagsAre f False False ((s.cpu.sp.toNat : Int) % 16 + e % 16 > 0xF) ((s.cpu.sp.toNat : Int) % 256 + e % 256 > 0xFF)
    (∃ t, TableRow (.ld_hl_sp_e e) [0xF8, BitVec.ofInt 8 e] 3 ∧ exec (.ld_hl_sp_e e) s = .next t ∧ flags t.cpu.f ∧
      t = (((between s).setR16 .hl (s.cpu.sp + BitVec.ofInt 16 e)).setFlags t.cpu.f).advance 2) ∧
    (∃ t, TableRow (.add_sp_e e) [0xE8, BitVec.ofInt 8 e] 4 ∧ exec (.add_sp_e e) s = .next t ∧ flags t.cpu.f ∧
      t = (((between (between s)).setSp (s.cpu.sp + BitVec.ofInt 16 e)).setFlags t.cpu.f).advance 2)

/-! ## 8-bit arithmetic and logic -/

/-- The eight accumulator operations in their three forms (42_alu8.md R187 to R194; the cycle of each read and write
is the spec's decision D3, R186). The flags written at the end are general knowledge by R186's mark (log 14). -/
def Obligations.AccumulatorOperations : Prop :=
  ∀ (op : AluOp) (s : State),
    (∀ r : Reg8, ∃ t,
      TableRow (Instr.aluReg op r) [byte (0x80 + 8 * aluOp op + reg8 r)] 1 ∧ exec (Instr.aluReg op r) s = .next t ∧
      Accumulator op s.cpu.a (s.r8 r) s.cpu.f t.cpu.a t.cpu.f ∧
      t = ((s.setR8 .a t.cpu.a).setFlags t.cpu.f).advance 1) ∧
    (∃ t,
      TableRow (Instr.aluMem op) [byte (0x86 + 8 * aluOp op)] 2 ∧ exec (Instr.aluMem op) s = .next t ∧
      Accumulator op s.cpu.a (memRead (between s) s.hl) s.cpu.f t.cpu.a t.cpu.f ∧
      t = (((between s).setR8 .a t.cpu.a).setFlags t.cpu.f).advance 1) ∧
    (∀ n : Byte, ∃ t,
      TableRow (Instr.aluImm op n) [byte (0xC6 + 8 * aluOp op), n] 2 ∧ exec (Instr.aluImm op n) s = .next t ∧
      Accumulator op s.cpu.a n s.cpu.f t.cpu.a t.cpu.f ∧
      t = ((s.setR8 .a t.cpu.a).setFlags t.cpu.f).advance 2)

/-- INC and DEC of a register and of the byte at HL, which is read in one machine cycle and written in the next; C is
never written (42_alu8.md R195 to R198). -/
def Obligations.IncrementAndDecrement : Prop :=
  ∀ s : State,
    let v := memRead (between s) s.hl
    let m := between (between s)
    let inc (v : Byte) (f : Flags) : Prop :=
      FlagsAre f (v = 0xFF) False (v.toNat % 16 = 0xF) (s.cpu.f.c = true)
    let dec (v : Byte) (f : Flags) : Prop :=
      FlagsAre f (v = 0x01) True (v.toNat % 16 = 0) (s.cpu.f.c = true)
    (∀ r : Reg8, ∃ f, TableRow (Instr.incReg r) [byte (0x04 + 8 * reg8 r)] 1 ∧ inc (s.r8 r) f ∧
      exec (Instr.incReg r) s = .next (((s.setR8 r (s.r8 r + 1)).setFlags f).advance 1)) ∧
    (∀ r : Reg8, ∃ f, TableRow (Instr.decReg r) [byte (0x05 + 8 * reg8 r)] 1 ∧ dec (s.r8 r) f ∧
      exec (Instr.decReg r) s = .next (((s.setR8 r (s.r8 r - 1)).setFlags f).advance 1)) ∧
    (∃ f, TableRow .inc_mhl [0x34] 3 ∧ inc v f ∧
      exec .inc_mhl s = .next (((memWrite m s.hl (v + 1)).setFlags f).advance 1)) ∧
    (∃ f, TableRow .dec_mhl [0x35] 3 ∧ dec v f ∧
      exec .dec_mhl s = .next (((memWrite m s.hl (v - 1)).setFlags f).advance 1))

/-- DAA, by the algorithm of the rule: both tests of the addition branch use A before any adjustment. CPL, SCF and CCF
(42_alu8.md R200 to R202; R199 marks its algorithm as general knowledge). -/
def Obligations.AccumulatorAdjustments : Prop :=
  ∀ s : State,
    let A : Int := s.cpu.a.toNat
    let f := s.cpu.f
    let low : Prop := f.h = true ∨ (f.n = false ∧ A % 16 > 9)
    let high : Prop := f.c = true ∨ (f.n = false ∧ A > 0x99)
    (∃ (t : State) (adjust : Int), TableRow .daa [0x27] 1 ∧ exec .daa s = .next t ∧
      (low ∧ high → adjust = 0x66) ∧ (low ∧ ¬high → adjust = 0x06) ∧ (¬low ∧ high → adjust = 0x60) ∧
      (¬low ∧ ¬high → adjust = 0) ∧
      (t.cpu.a.toNat : Int) = (if f.n then A - adjust else A + adjust) % 256 ∧
      FlagsAre t.cpu.f (t.cpu.a = 0) (f.n = true) False high ∧
      t = ((s.setR8 .a t.cpu.a).setFlags t.cpu.f).advance 1) ∧
    (TableRow .cpl [0x2F] 1 ∧
      exec .cpl s = .next (((s.setR8 .a (~~~s.cpu.a)).setFlags { f with n := true, h := true }).advance 1)) ∧
    (TableRow .scf [0x37] 1 ∧
      exec .scf s = .next ((s.setFlags { f with n := false, h := false, c := true }).advance 1)) ∧
    (TableRow .ccf [0x3F] 1 ∧
      exec .ccf s = .next ((s.setFlags { f with n := false, h := false, c := !f.c }).advance 1))

/-- DAA after an addition of packed BCD bytes, with carry in, gives the packed BCD sum and the decimal carry
(42_alu8.md R199: "DAA corrects register A to valid packed-BCD after an addition or subtraction"). The algorithm is
general knowledge by R199's own mark (log 14). -/
def Obligations.DecimalAdjustAddsBcd : Prop :=
  ∀ s t u : State, IsBcd s.cpu.a → IsBcd s.cpu.b → exec .adc_a_b s = .next t → exec .daa t = .next u →
    let sum := bcd s.cpu.a + bcd s.cpu.b + (if s.cpu.f.c then 1 else 0)
    IsBcd u.cpu.a ∧ bcd u.cpu.a = sum % 100 ∧ (u.cpu.f.c = true ↔ 100 ≤ sum)

/-! ## 16-bit arithmetic -/

/-- ADD HL,rr, INC rr and DEC rr (43_alu16.md R220 to R222). -/
def Obligations.PairArithmetic : Prop :=
  ∀ (rr : Reg16) (s : State),
    (∃ f, TableRow (Instr.addHl rr) [byte (0x09 + 16 * reg16 rr)] 2 ∧
      FlagsAre f (s.cpu.f.z = true) False (s.hl.toNat % 4096 + (s.r16 rr).toNat % 4096 > 0xFFF)
        (s.hl.toNat + (s.r16 rr).toNat > 0xFFFF) ∧
      exec (Instr.addHl rr) s =
        .next ((((between s).setR16 .hl (BitVec.ofNat 16 (s.hl.toNat + (s.r16 rr).toNat))).setFlags f).advance 1)) ∧
    (TableRow (Instr.incPair rr) [byte (0x03 + 16 * reg16 rr)] 2 ∧
      exec (Instr.incPair rr) s = .next (((between s).setR16 rr (s.r16 rr + 1)).advance 1)) ∧
    (TableRow (Instr.decPair rr) [byte (0x0B + 16 * reg16 rr)] 2 ∧
      exec (Instr.decPair rr) s = .next (((between s).setR16 rr (s.r16 rr - 1)).advance 1))

/-! ## Rotates, shifts and bits -/

/-- RLCA, RRCA, RLA and RRA: as the prefixed rotates of A but one byte, one cycle, and Z always clear
(44_rotate_shift_bit.md R230 to R233). -/
def Obligations.AccumulatorRotates : Prop :=
  ∀ s : State,
    let rotates (i : Instr) (op : ShiftOp) (code : Byte) : Prop :=
      ∃ t, TableRow i [code] 1 ∧ exec i s = .next t ∧ Shift op s.cpu.a s.cpu.f.c t.cpu.a t.cpu.f.c ∧
        t.cpu.f.z = false ∧ t.cpu.f.n = false ∧ t.cpu.f.h = false ∧
        t = ((s.setR8 .a t.cpu.a).setFlags t.cpu.f).advance 1
    rotates .rlca .rlc 0x07 ∧ rotates .rrca .rrc 0x0F ∧ rotates .rla .rl 0x17 ∧ rotates .rra .rr 0x1F

/-- The prefixed rotates and shifts, on a register and on the byte at HL, which is read in one machine cycle and
written in the next (44_rotate_shift_bit.md R237 to R244). The operand by selector, PC + 2, the counts and the cycles
of the read and the write are R236, the spec's decision D3 and general knowledge by its mark (log 14). -/
def Obligations.RotatesAndShifts : Prop :=
  ∀ (op : ShiftOp) (s : State),
    (∀ r : Reg8, ∃ t,
      TableRow (Instr.shiftReg op r) [0xCB, byte (8 * shiftOp op + reg8 r)] 2 ∧ exec (Instr.shiftReg op r) s = .next t ∧
      Shift op (s.r8 r) s.cpu.f.c (t.r8 r) t.cpu.f.c ∧
      FlagsAre t.cpu.f (t.r8 r = 0) False False (t.cpu.f.c = true) ∧
      t = ((s.setR8 r (t.r8 r)).setFlags t.cpu.f).advance 2) ∧
    (∃ v' f,
      TableRow (Instr.shiftMem op) [0xCB, byte (8 * shiftOp op + 6)] 4 ∧
      Shift op (memRead (between s) s.hl) s.cpu.f.c v' f.c ∧ FlagsAre f (v' = 0) False False (f.c = true) ∧
      exec (Instr.shiftMem op) s = .next (((memWrite (between (between s)) s.hl v').setFlags f).advance 2))

/-- BIT, RES and SET, on a register and on the byte at HL: BIT writes Z, N and H and nothing else, RES and SET write
the bit and no flag, and the byte at HL is written back (44_rotate_shift_bit.md R245 to R247). The operand by
selector, PC + 2, the counts and the cycles of the read and the write are R236, the spec's decision D3 and general
knowledge by its mark (log 14). -/
def Obligations.BitOperations : Prop :=
  ∀ (b : Fin 8) (s : State),
    let tested (v : Byte) : Flags := { z := !v.getLsbD b.val, n := false, h := true, c := s.cpu.f.c }
    let cleared (v v' : Byte) : Prop := ∀ k, k < 8 → v'.getLsbD k = (v.getLsbD k && k != b.val)
    let raised (v v' : Byte) : Prop := ∀ k, k < 8 → v'.getLsbD k = (v.getLsbD k || k == b.val)
    let v := memRead (between s) s.hl
    let m := between (between s)
    (∀ r : Reg8,
      TableRow (Instr.bitReg b r) [0xCB, byte (0x40 + 8 * b.val + reg8 r)] 2 ∧
      exec (Instr.bitReg b r) s = .next ((s.setFlags (tested (s.r8 r))).advance 2)) ∧
    (TableRow (Instr.bitMem b) [0xCB, byte (0x46 + 8 * b.val)] 3 ∧
      exec (Instr.bitMem b) s = .next (((between s).setFlags (tested v)).advance 2)) ∧
    (∀ r : Reg8, ∃ v',
      TableRow (Instr.resReg b r) [0xCB, byte (0x80 + 8 * b.val + reg8 r)] 2 ∧ cleared (s.r8 r) v' ∧
      exec (Instr.resReg b r) s = .next ((s.setR8 r v').advance 2)) ∧
    (∃ v', TableRow (Instr.resMem b) [0xCB, byte (0x86 + 8 * b.val)] 4 ∧ cleared v v' ∧
      exec (Instr.resMem b) s = .next ((memWrite m s.hl v').advance 2)) ∧
    (∀ r : Reg8, ∃ v',
      TableRow (Instr.setReg b r) [0xCB, byte (0xC0 + 8 * b.val + reg8 r)] 2 ∧ raised (s.r8 r) v' ∧
      exec (Instr.setReg b r) s = .next ((s.setR8 r v').advance 2)) ∧
    (∃ v', TableRow (Instr.setMem b) [0xCB, byte (0xC6 + 8 * b.val)] 4 ∧ raised v v' ∧
      exec (Instr.setMem b) s = .next ((memWrite m s.hl v').advance 2))

/-! ## Control transfer -/

/-- The jumps, absolute, through HL and relative, taken and not taken; a relative target is counted from the byte after
the instruction (45_control.md R261 to R265). The state equality holds for
every integer `e`, the model's choice for a displacement (log 12); the encoding admits -128 to 127. -/
def Obligations.Jumps : Prop :=
  ∀ s : State,
    (∀ nn : Word,
      TableRow (.jp_nn nn) [0xC3, loByte nn, hiByte nn] 4 ∧ exec (.jp_nn nn) s = .next ((between s).retire nn)) ∧
    (TableRow .jp_hl [0xE9] 1 ∧ exec .jp_hl s = .next (s.retire s.hl)) ∧
    (∀ (cc : Cond) (nn : Word),
      CondTableRow (Instr.jpCond cc nn) [byte (0xC2 + 8 * cond cc), loByte nn, hiByte nn] cc 4 3 ∧
      exec (Instr.jpCond cc nn) s =
        .next (if condHolds cc s.cpu.f then (between s).retire nn else s.retire (s.cpu.pc + 3))) ∧
    (∀ e : Int,
      TableRow (.jr_e e) [0x18, BitVec.ofInt 8 e] 3 ∧
      exec (.jr_e e) s = .next ((between s).retire (s.cpu.pc + 2 + BitVec.ofInt 16 e))) ∧
    (∀ (cc : Cond) (e : Int),
      CondTableRow (Instr.jrCond cc e) [byte (0x20 + 8 * cond cc), BitVec.ofInt 8 e] cc 3 2 ∧
      exec (Instr.jrCond cc e) s =
        .next (if condHolds cc s.cpu.f then (between s).retire (s.cpu.pc + 2 + BitVec.ofInt 16 e)
          else s.retire (s.cpu.pc + 2)))

/-- CALL, CALL cc and RST: the address after the instruction is pushed and PC is the target; not taken, the stack is
untouched (45_control.md R266, R267, R276). -/
def Obligations.Calls : Prop :=
  ∀ s : State,
    (∀ nn : Word,
      TableRow (.call_nn nn) [0xCD, loByte nn, hiByte nn] 6 ∧
      exec (.call_nn nn) s = .next ((pushed (s.cpu.pc + 3) (between (between s))).retire nn)) ∧
    (∀ (cc : Cond) (nn : Word),
      CondTableRow (Instr.callCond cc nn) [byte (0xC4 + 8 * cond cc), loByte nn, hiByte nn] cc 6 3 ∧
      exec (Instr.callCond cc nn) s =
        .next (if condHolds cc s.cpu.f then (pushed (s.cpu.pc + 3) (between (between s))).retire nn
          else s.retire (s.cpu.pc + 3))) ∧
    (∀ y : Fin 8,
      TableRow (Instr.rst y) [byte (0xC7 + 8 * y.val)] 4 ∧
      exec (Instr.rst y) s =
        .next ((pushed (s.cpu.pc + 1) (between (between s))).retire (BitVec.ofNat 16 (8 * y.val))))

/-- RET, RET cc and RETI: two bytes are popped into PC, low byte first; RETI sets IME at the same time; RET cc checks its
condition in a cycle of its own (45_control.md R270, R271; RETI by R274, the spec's decision
D10, log 14). -/
def Obligations.Returns : Prop :=
  ∀ s : State,
    let popped (m : State) : State :=
      let m' := between m
      ((between m').setSp (s.cpu.sp + 2)).retire (joinBytes (memRead m' (s.cpu.sp + 1)) (memRead m s.cpu.sp))
    (TableRow .ret [0xC9] 4 ∧ exec .ret s = .next (popped (between s))) ∧
    (∀ cc : Cond,
      CondTableRow (Instr.retCond cc) [byte (0xC0 + 8 * cond cc)] cc 5 2 ∧
      exec (Instr.retCond cc) s =
        .next (if condHolds cc s.cpu.f then popped (between (between s)) else (between s).retire (s.cpu.pc + 1))) ∧
    (TableRow .reti [0xD9] 4 ∧
      exec .reti s =
        .next { popped (between s) with cpu := { (popped (between s)).cpu with ime := true } })

/-! ## System instructions -/

/-- NOP, HALT, DI and STOP, one machine cycle each: HALT leaves PC at its opcode; DI clears IME at once; STOP is a
two-byte no-op or an undefined opcode, by the parameter, whatever its second byte (46_system.md R280, R282 to R284). HALT
is by the spec's decisions D5 and D6, DI by D7, STOP by D9 (log 14); that the encoder writes STOP's second byte as 0x00 is
deduced (log 13). -/
def Obligations.SystemInstructions : Prop :=
  ∀ s : State,
    (TableRow .nop [0x00] 1 ∧ exec .nop s = .next (s.advance 1)) ∧
    (TableRow .halt [0x76] 1 ∧
      exec .halt s = .next { s.retire s.cpu.pc with cpu := { (s.retire s.cpu.pc).cpu with halted := true } }) ∧
    (TableRow .di [0xF3] 1 ∧
      exec .di s = .next { s.advance 1 with cpu := { (s.advance 1).cpu with ime := false } }) ∧
    (TableRow .stop [0x10, 0x00] 1 ∧ (∀ v : Byte, decode [0x10, v] = .ok (.stop, [])) ∧
      (s.params.stopMode = .nop2 → exec .stop s = .next (s.advance 2)) ∧
      (s.params.stopMode = .refuse →
        exec .stop s = .next { s with cpu := { s.cpu with fatal := some (0x10, s.cpu.pc) } }))
end

