-- ==== Sys2Proof/Laws/Memory.lean ====
section
/-! SUPPORT. Byte storage: what a read finds after a write, and the canonical form every operation keeps. -/

namespace Sys2Proof.Machine

/-! ### Reads -/

@[simp] theorem Memory.read_nil (a : Nat) : Memory.read [] a = unlistedByte := rfl

theorem Memory.read_cons (c : Host.Cell) (m : Memory) (a : Nat) :
    Memory.read (c :: m) a = if c.1 = a then c.2 else Memory.read m a := rfl

theorem Memory.read_of_not_listed (m : Memory) (a : Nat) (h : ∀ c ∈ m, c.1 ≠ a) : m.read a = unlistedByte := by
  induction m with
  | nil => rfl
  | cons c m ih =>
    rw [Memory.read_cons, if_neg (h c (by simp))]
    exact ih fun d hd => h d (by simp [hd])

theorem Memory.mem_erase (m : Memory) (a : Nat) (c : Host.Cell) : c ∈ m.erase a ↔ c ∈ m ∧ c.1 ≠ a := by
  simp [Memory.erase]

theorem Memory.read_erase (m : Memory) (a b : Nat) :
    (m.erase a).read b = if b = a then unlistedByte else m.read b := by
  induction m with
  | nil => simp [Memory.erase]
  | cons c m ih =>
    simp only [Memory.erase] at ih ⊢
    by_cases hc : c.1 = a
    · rw [List.filter_cons_of_neg (by simp [hc]), ih, Memory.read_cons]
      by_cases hb : b = a
      · simp [hb]
      · rw [if_neg hb, if_neg hb, if_neg (by omega)]
    · rw [List.filter_cons_of_pos (by simp [hc]), Memory.read_cons, Memory.read_cons, ih]
      by_cases hb : b = a
      · rw [if_neg (by omega), if_pos hb, if_pos hb]
      · simp [hb]

theorem Memory.read_insert (m : Memory) (a b : Nat) (v : Byte) (h : ∀ c ∈ m, c.1 ≠ a) :
    (m.insert a v).read b = if b = a then v else m.read b := by
  induction m with
  | nil =>
    simp only [Memory.insert, Memory.read_cons, Memory.read_nil]
    by_cases hb : b = a
    · simp [hb]
    · rw [if_neg (by omega), if_neg hb]
  | cons c m ih =>
    obtain ⟨k, w⟩ := c
    have hk : k ≠ a := h (k, w) (by simp)
    simp only [Memory.insert]
    split
    · rw [Memory.read_cons]
      by_cases hb : b = a
      · simp [hb]
      · rw [if_neg (by simp; omega), if_neg hb]
    · rw [Memory.read_cons, ih fun d hd => h d (by simp [hd]), Memory.read_cons]
      by_cases hb : b = a
      · rw [if_neg (by simp; omega), if_pos hb, if_pos hb]
      · simp [hb]

/-- A read after a write: the byte written at its address, the old byte everywhere else. -/
theorem Memory.read_write (m : Memory) (a b : Nat) (v : Byte) :
    (m.write a v).read b = if b = a then v else m.read b := by
  unfold Memory.write
  split
  · rename_i hv
    rw [Memory.read_erase, hv]
  · rw [Memory.read_insert _ _ _ _ fun c hc => ((Memory.mem_erase m a c).1 hc).2, Memory.read_erase]
    by_cases hb : b = a <;> simp [hb]

@[simp] theorem Memory.read_write_self (m : Memory) (a : Nat) (v : Byte) : (m.write a v).read a = v := by
  rw [Memory.read_write, if_pos rfl]

theorem Memory.read_write_ne (m : Memory) (a b : Nat) (v : Byte) (h : b ≠ a) : (m.write a v).read b = m.read b := by
  rw [Memory.read_write, if_neg h]

/-- A read outside the addresses a list of bytes was stored at. -/
theorem Memory.read_writeAll_outside (vs : List Byte) (m : Memory) (a b : Nat) (h : b < a ∨ a + vs.length ≤ b) :
    (m.writeAll a vs).read b = m.read b := by
  induction vs generalizing m a with
  | nil => rfl
  | cons v vs ih =>
    rw [Memory.writeAll, ih _ _ (by simp at h; omega), Memory.read_write_ne _ _ _ _ (by simp at h; omega)]

/-- A read of one of the bytes a list was stored as. -/
theorem Memory.read_writeAll_inside (vs : List Byte) (m : Memory) (a i : Nat) (h : i < vs.length) :
    (m.writeAll a vs).read (a + i) = vs[i] := by
  induction vs generalizing m a i with
  | nil => simp at h
  | cons v vs ih =>
    rw [Memory.writeAll]
    cases i with
    | zero => rw [Memory.read_writeAll_outside _ _ _ _ (by omega)]; simp
    | succ i =>
      have := ih (m.write a v) (a + 1) i (by simpa using h)
      rw [show a + (i + 1) = a + 1 + i by omega, this]
      simp

/-! ### The canonical form -/

theorem Memory.wf_nil : Memory.wf [] = true := rfl

theorem Memory.wf_cons (c : Host.Cell) (m : Memory) :
    Memory.wf (c :: m) = true ↔ c.2 ≠ unlistedByte ∧ (∀ d ∈ m, c.1 < d.1) ∧ Memory.wf m = true := by
  simp [Memory.wf, and_assoc]

theorem Memory.mem_insert (m : Memory) (a : Nat) (v : Byte) (c : Host.Cell) :
    c ∈ m.insert a v ↔ c = (a, v) ∨ c ∈ m := by
  induction m with
  | nil => simp [Memory.insert]
  | cons d m ih =>
    obtain ⟨k, w⟩ := d
    simp only [Memory.insert]
    split
    · simp
    · simp [ih]; tauto

theorem Memory.wf_erase (m : Memory) (a : Nat) (h : m.wf = true) : (m.erase a).wf = true := by
  induction m with
  | nil => rfl
  | cons c m ih =>
    obtain ⟨h1, h2, h3⟩ := (Memory.wf_cons c m).1 h
    simp only [Memory.erase] at ih ⊢
    by_cases hc : c.1 = a
    · rw [List.filter_cons_of_neg (by simp [hc])]
      exact ih h3
    · rw [List.filter_cons_of_pos (by simp [hc]), Memory.wf_cons]
      exact ⟨h1, fun d hd => h2 d (List.mem_filter.1 hd).1, ih h3⟩

theorem Memory.wf_insert (m : Memory) (a : Nat) (v : Byte) (h : m.wf = true) (hv : v ≠ unlistedByte)
    (ha : ∀ c ∈ m, c.1 ≠ a) : (m.insert a v).wf = true := by
  induction m with
  | nil => simp [Memory.insert, Memory.wf, hv]
  | cons d m ih =>
    obtain ⟨k, w⟩ := d
    obtain ⟨h1, h2, h3⟩ := (Memory.wf_cons _ m).1 h
    have hk : k ≠ a := ha (k, w) (by simp)
    simp only [Memory.insert]
    split
    · rename_i hlt
      rw [Memory.wf_cons]
      refine ⟨hv, fun c hc => ?_, h⟩
      rcases List.mem_cons.1 hc with rfl | hc
      · exact hlt
      · exact Nat.lt_trans hlt (h2 c hc)
    · rename_i hge
      rw [Memory.wf_cons]
      refine ⟨h1, fun c hc => ?_, ih h3 fun c hc => ha c (by simp [hc])⟩
      rcases (Memory.mem_insert m a v c).1 hc with rfl | hc
      · simp only; omega
      · exact h2 c hc

/-- A write keeps the canonical form. -/
theorem Memory.wf_write (m : Memory) (a : Nat) (v : Byte) (h : m.wf = true) : (m.write a v).wf = true := by
  unfold Memory.write
  split
  · exact Memory.wf_erase m a h
  · rename_i hv
    exact Memory.wf_insert _ _ _ (Memory.wf_erase m a h) hv fun c hc => ((Memory.mem_erase m a c).1 hc).2

/-- A write of several bytes keeps the canonical form. -/
theorem Memory.wf_writeAll (vs : List Byte) (m : Memory) (a : Nat) (h : m.wf = true) :
    (m.writeAll a vs).wf = true := by
  induction vs generalizing m a with
  | nil => exact h
  | cons v vs ih => exact ih _ _ (Memory.wf_write m a v h)

/-- A write lists no address but its own. -/
theorem Memory.mem_write (m : Memory) (a : Nat) (v : Byte) (c : Host.Cell) (h : c ∈ m.write a v) :
    c.1 = a ∨ c ∈ m := by
  unfold Memory.write at h
  split at h
  · exact .inr ((Memory.mem_erase m a c).1 h).1
  · rcases (Memory.mem_insert _ a v c).1 h with rfl | h
    · exact .inl rfl
    · exact .inr ((Memory.mem_erase m a c).1 h).1

/-- A write of several bytes lists no address but its own. -/
theorem Memory.mem_writeAll (vs : List Byte) (m : Memory) (a : Nat) (c : Host.Cell) (h : c ∈ m.writeAll a vs) :
    (a ≤ c.1 ∧ c.1 < a + vs.length) ∨ c ∈ m := by
  induction vs generalizing m a with
  | nil => exact .inr h
  | cons v vs ih =>
    rcases ih _ _ h with h | h
    · exact .inl (by simp; omega)
    · rcases Memory.mem_write m a v c h with h | h
      · exact .inl (by simp; omega)
      · exact .inr h

end Sys2Proof.Machine
end

