-- ==== Sys2Proof/Laws/State.lean ====
section
/-! SUPPORT. What each update of the state leaves and what it writes, one lemma per field. -/

namespace Sys2Proof.Machine

/-! ### `State.setFlags` -/

@[simp] theorem State.setFlags_irq (s : State) (f : Flags) : (s.setFlags f).irq = s.irq := rfl
@[simp] theorem State.setFlags_timer (s : State) (f : Flags) : (s.setFlags f).timer = s.timer := rfl
@[simp] theorem State.setFlags_joypad (s : State) (f : Flags) : (s.setFlags f).joypad = s.joypad := rfl
@[simp] theorem State.setFlags_bus (s : State) (f : Flags) : (s.setFlags f).bus = s.bus := rfl
@[simp] theorem State.setFlags_ppu (s : State) (f : Flags) : (s.setFlags f).ppu = s.ppu := rfl
@[simp] theorem State.setFlags_mem (s : State) (f : Flags) : (s.setFlags f).mem = s.mem := rfl
@[simp] theorem State.setFlags_bootRom (s : State) (f : Flags) : (s.setFlags f).bootRom = s.bootRom := rfl
@[simp] theorem State.setFlags_cartRom (s : State) (f : Flags) : (s.setFlags f).cartRom = s.cartRom := rfl
@[simp] theorem State.setFlags_params (s : State) (f : Flags) : (s.setFlags f).params = s.params := rfl
@[simp] theorem State.setFlags_hostQueue (s : State) (f : Flags) : (s.setFlags f).hostQueue = s.hostQueue := rfl
@[simp] theorem State.setFlags_rowsReady (s : State) (f : Flags) : (s.setFlags f).rowsReady = s.rowsReady := rfl
@[simp] theorem State.setFlags_cpu_a (s : State) (f : Flags) : (s.setFlags f).cpu.a = s.cpu.a := rfl
@[simp] theorem State.setFlags_cpu_b (s : State) (f : Flags) : (s.setFlags f).cpu.b = s.cpu.b := rfl
@[simp] theorem State.setFlags_cpu_c (s : State) (f : Flags) : (s.setFlags f).cpu.c = s.cpu.c := rfl
@[simp] theorem State.setFlags_cpu_d (s : State) (f : Flags) : (s.setFlags f).cpu.d = s.cpu.d := rfl
@[simp] theorem State.setFlags_cpu_e (s : State) (f : Flags) : (s.setFlags f).cpu.e = s.cpu.e := rfl
@[simp] theorem State.setFlags_cpu_h (s : State) (f : Flags) : (s.setFlags f).cpu.h = s.cpu.h := rfl
@[simp] theorem State.setFlags_cpu_l (s : State) (f : Flags) : (s.setFlags f).cpu.l = s.cpu.l := rfl
@[simp] theorem State.setFlags_cpu_f (s : State) (f : Flags) : (s.setFlags f).cpu.f = f := rfl
@[simp] theorem State.setFlags_cpu_sp (s : State) (f : Flags) : (s.setFlags f).cpu.sp = s.cpu.sp := rfl
@[simp] theorem State.setFlags_cpu_pc (s : State) (f : Flags) : (s.setFlags f).cpu.pc = s.cpu.pc := rfl
@[simp] theorem State.setFlags_cpu_ime (s : State) (f : Flags) : (s.setFlags f).cpu.ime = s.cpu.ime := rfl
@[simp] theorem State.setFlags_cpu_halted (s : State) (f : Flags) : (s.setFlags f).cpu.halted = s.cpu.halted := rfl
@[simp] theorem State.setFlags_cpu_stage (s : State) (f : Flags) : (s.setFlags f).cpu.stage = s.cpu.stage := rfl
@[simp] theorem State.setFlags_cpu_d8 (s : State) (f : Flags) : (s.setFlags f).cpu.d8 = s.cpu.d8 := rfl
@[simp] theorem State.setFlags_cpu_d16 (s : State) (f : Flags) : (s.setFlags f).cpu.d16 = s.cpu.d16 := rfl
@[simp] theorem State.setFlags_cpu_pf (s : State) (f : Flags) : (s.setFlags f).cpu.pf = s.cpu.pf := rfl
@[simp] theorem State.setFlags_cpu_ei (s : State) (f : Flags) : (s.setFlags f).cpu.ei = s.cpu.ei := rfl
@[simp] theorem State.setFlags_cpu_di (s : State) (f : Flags) : (s.setFlags f).cpu.di = s.cpu.di := rfl
@[simp] theorem State.setFlags_cpu_ir (s : State) (f : Flags) : (s.setFlags f).cpu.ir = s.cpu.ir := rfl
@[simp] theorem State.setFlags_cpu_fatal (s : State) (f : Flags) : (s.setFlags f).cpu.fatal = s.cpu.fatal := rfl

/-! ### `State.setSp` -/

@[simp] theorem State.setSp_irq (s : State) (v : Word) : (s.setSp v).irq = s.irq := rfl
@[simp] theorem State.setSp_timer (s : State) (v : Word) : (s.setSp v).timer = s.timer := rfl
@[simp] theorem State.setSp_joypad (s : State) (v : Word) : (s.setSp v).joypad = s.joypad := rfl
@[simp] theorem State.setSp_bus (s : State) (v : Word) : (s.setSp v).bus = s.bus := rfl
@[simp] theorem State.setSp_ppu (s : State) (v : Word) : (s.setSp v).ppu = s.ppu := rfl
@[simp] theorem State.setSp_mem (s : State) (v : Word) : (s.setSp v).mem = s.mem := rfl
@[simp] theorem State.setSp_bootRom (s : State) (v : Word) : (s.setSp v).bootRom = s.bootRom := rfl
@[simp] theorem State.setSp_cartRom (s : State) (v : Word) : (s.setSp v).cartRom = s.cartRom := rfl
@[simp] theorem State.setSp_params (s : State) (v : Word) : (s.setSp v).params = s.params := rfl
@[simp] theorem State.setSp_hostQueue (s : State) (v : Word) : (s.setSp v).hostQueue = s.hostQueue := rfl
@[simp] theorem State.setSp_rowsReady (s : State) (v : Word) : (s.setSp v).rowsReady = s.rowsReady := rfl
@[simp] theorem State.setSp_cpu_a (s : State) (v : Word) : (s.setSp v).cpu.a = s.cpu.a := rfl
@[simp] theorem State.setSp_cpu_b (s : State) (v : Word) : (s.setSp v).cpu.b = s.cpu.b := rfl
@[simp] theorem State.setSp_cpu_c (s : State) (v : Word) : (s.setSp v).cpu.c = s.cpu.c := rfl
@[simp] theorem State.setSp_cpu_d (s : State) (v : Word) : (s.setSp v).cpu.d = s.cpu.d := rfl
@[simp] theorem State.setSp_cpu_e (s : State) (v : Word) : (s.setSp v).cpu.e = s.cpu.e := rfl
@[simp] theorem State.setSp_cpu_h (s : State) (v : Word) : (s.setSp v).cpu.h = s.cpu.h := rfl
@[simp] theorem State.setSp_cpu_l (s : State) (v : Word) : (s.setSp v).cpu.l = s.cpu.l := rfl
@[simp] theorem State.setSp_cpu_f (s : State) (v : Word) : (s.setSp v).cpu.f = s.cpu.f := rfl
@[simp] theorem State.setSp_cpu_sp (s : State) (v : Word) : (s.setSp v).cpu.sp = v := rfl
@[simp] theorem State.setSp_cpu_pc (s : State) (v : Word) : (s.setSp v).cpu.pc = s.cpu.pc := rfl
@[simp] theorem State.setSp_cpu_ime (s : State) (v : Word) : (s.setSp v).cpu.ime = s.cpu.ime := rfl
@[simp] theorem State.setSp_cpu_halted (s : State) (v : Word) : (s.setSp v).cpu.halted = s.cpu.halted := rfl
@[simp] theorem State.setSp_cpu_stage (s : State) (v : Word) : (s.setSp v).cpu.stage = s.cpu.stage := rfl
@[simp] theorem State.setSp_cpu_d8 (s : State) (v : Word) : (s.setSp v).cpu.d8 = s.cpu.d8 := rfl
@[simp] theorem State.setSp_cpu_d16 (s : State) (v : Word) : (s.setSp v).cpu.d16 = s.cpu.d16 := rfl
@[simp] theorem State.setSp_cpu_pf (s : State) (v : Word) : (s.setSp v).cpu.pf = s.cpu.pf := rfl
@[simp] theorem State.setSp_cpu_ei (s : State) (v : Word) : (s.setSp v).cpu.ei = s.cpu.ei := rfl
@[simp] theorem State.setSp_cpu_di (s : State) (v : Word) : (s.setSp v).cpu.di = s.cpu.di := rfl
@[simp] theorem State.setSp_cpu_ir (s : State) (v : Word) : (s.setSp v).cpu.ir = s.cpu.ir := rfl
@[simp] theorem State.setSp_cpu_fatal (s : State) (v : Word) : (s.setSp v).cpu.fatal = s.cpu.fatal := rfl

/-! ### `State.setD8` -/

@[simp] theorem State.setD8_irq (s : State) (v : Byte) : (s.setD8 v).irq = s.irq := rfl
@[simp] theorem State.setD8_timer (s : State) (v : Byte) : (s.setD8 v).timer = s.timer := rfl
@[simp] theorem State.setD8_joypad (s : State) (v : Byte) : (s.setD8 v).joypad = s.joypad := rfl
@[simp] theorem State.setD8_bus (s : State) (v : Byte) : (s.setD8 v).bus = s.bus := rfl
@[simp] theorem State.setD8_ppu (s : State) (v : Byte) : (s.setD8 v).ppu = s.ppu := rfl
@[simp] theorem State.setD8_mem (s : State) (v : Byte) : (s.setD8 v).mem = s.mem := rfl
@[simp] theorem State.setD8_bootRom (s : State) (v : Byte) : (s.setD8 v).bootRom = s.bootRom := rfl
@[simp] theorem State.setD8_cartRom (s : State) (v : Byte) : (s.setD8 v).cartRom = s.cartRom := rfl
@[simp] theorem State.setD8_params (s : State) (v : Byte) : (s.setD8 v).params = s.params := rfl
@[simp] theorem State.setD8_hostQueue (s : State) (v : Byte) : (s.setD8 v).hostQueue = s.hostQueue := rfl
@[simp] theorem State.setD8_rowsReady (s : State) (v : Byte) : (s.setD8 v).rowsReady = s.rowsReady := rfl
@[simp] theorem State.setD8_cpu_a (s : State) (v : Byte) : (s.setD8 v).cpu.a = s.cpu.a := rfl
@[simp] theorem State.setD8_cpu_b (s : State) (v : Byte) : (s.setD8 v).cpu.b = s.cpu.b := rfl
@[simp] theorem State.setD8_cpu_c (s : State) (v : Byte) : (s.setD8 v).cpu.c = s.cpu.c := rfl
@[simp] theorem State.setD8_cpu_d (s : State) (v : Byte) : (s.setD8 v).cpu.d = s.cpu.d := rfl
@[simp] theorem State.setD8_cpu_e (s : State) (v : Byte) : (s.setD8 v).cpu.e = s.cpu.e := rfl
@[simp] theorem State.setD8_cpu_h (s : State) (v : Byte) : (s.setD8 v).cpu.h = s.cpu.h := rfl
@[simp] theorem State.setD8_cpu_l (s : State) (v : Byte) : (s.setD8 v).cpu.l = s.cpu.l := rfl
@[simp] theorem State.setD8_cpu_f (s : State) (v : Byte) : (s.setD8 v).cpu.f = s.cpu.f := rfl
@[simp] theorem State.setD8_cpu_sp (s : State) (v : Byte) : (s.setD8 v).cpu.sp = s.cpu.sp := rfl
@[simp] theorem State.setD8_cpu_pc (s : State) (v : Byte) : (s.setD8 v).cpu.pc = s.cpu.pc := rfl
@[simp] theorem State.setD8_cpu_ime (s : State) (v : Byte) : (s.setD8 v).cpu.ime = s.cpu.ime := rfl
@[simp] theorem State.setD8_cpu_halted (s : State) (v : Byte) : (s.setD8 v).cpu.halted = s.cpu.halted := rfl
@[simp] theorem State.setD8_cpu_stage (s : State) (v : Byte) : (s.setD8 v).cpu.stage = s.cpu.stage := rfl
@[simp] theorem State.setD8_cpu_d8 (s : State) (v : Byte) : (s.setD8 v).cpu.d8 = v := rfl
@[simp] theorem State.setD8_cpu_d16 (s : State) (v : Byte) : (s.setD8 v).cpu.d16 = s.cpu.d16 := rfl
@[simp] theorem State.setD8_cpu_pf (s : State) (v : Byte) : (s.setD8 v).cpu.pf = s.cpu.pf := rfl
@[simp] theorem State.setD8_cpu_ei (s : State) (v : Byte) : (s.setD8 v).cpu.ei = s.cpu.ei := rfl
@[simp] theorem State.setD8_cpu_di (s : State) (v : Byte) : (s.setD8 v).cpu.di = s.cpu.di := rfl
@[simp] theorem State.setD8_cpu_ir (s : State) (v : Byte) : (s.setD8 v).cpu.ir = s.cpu.ir := rfl
@[simp] theorem State.setD8_cpu_fatal (s : State) (v : Byte) : (s.setD8 v).cpu.fatal = s.cpu.fatal := rfl

/-! ### `State.setD16` -/

@[simp] theorem State.setD16_irq (s : State) (v : Word) : (s.setD16 v).irq = s.irq := rfl
@[simp] theorem State.setD16_timer (s : State) (v : Word) : (s.setD16 v).timer = s.timer := rfl
@[simp] theorem State.setD16_joypad (s : State) (v : Word) : (s.setD16 v).joypad = s.joypad := rfl
@[simp] theorem State.setD16_bus (s : State) (v : Word) : (s.setD16 v).bus = s.bus := rfl
@[simp] theorem State.setD16_ppu (s : State) (v : Word) : (s.setD16 v).ppu = s.ppu := rfl
@[simp] theorem State.setD16_mem (s : State) (v : Word) : (s.setD16 v).mem = s.mem := rfl
@[simp] theorem State.setD16_bootRom (s : State) (v : Word) : (s.setD16 v).bootRom = s.bootRom := rfl
@[simp] theorem State.setD16_cartRom (s : State) (v : Word) : (s.setD16 v).cartRom = s.cartRom := rfl
@[simp] theorem State.setD16_params (s : State) (v : Word) : (s.setD16 v).params = s.params := rfl
@[simp] theorem State.setD16_hostQueue (s : State) (v : Word) : (s.setD16 v).hostQueue = s.hostQueue := rfl
@[simp] theorem State.setD16_rowsReady (s : State) (v : Word) : (s.setD16 v).rowsReady = s.rowsReady := rfl
@[simp] theorem State.setD16_cpu_a (s : State) (v : Word) : (s.setD16 v).cpu.a = s.cpu.a := rfl
@[simp] theorem State.setD16_cpu_b (s : State) (v : Word) : (s.setD16 v).cpu.b = s.cpu.b := rfl
@[simp] theorem State.setD16_cpu_c (s : State) (v : Word) : (s.setD16 v).cpu.c = s.cpu.c := rfl
@[simp] theorem State.setD16_cpu_d (s : State) (v : Word) : (s.setD16 v).cpu.d = s.cpu.d := rfl
@[simp] theorem State.setD16_cpu_e (s : State) (v : Word) : (s.setD16 v).cpu.e = s.cpu.e := rfl
@[simp] theorem State.setD16_cpu_h (s : State) (v : Word) : (s.setD16 v).cpu.h = s.cpu.h := rfl
@[simp] theorem State.setD16_cpu_l (s : State) (v : Word) : (s.setD16 v).cpu.l = s.cpu.l := rfl
@[simp] theorem State.setD16_cpu_f (s : State) (v : Word) : (s.setD16 v).cpu.f = s.cpu.f := rfl
@[simp] theorem State.setD16_cpu_sp (s : State) (v : Word) : (s.setD16 v).cpu.sp = s.cpu.sp := rfl
@[simp] theorem State.setD16_cpu_pc (s : State) (v : Word) : (s.setD16 v).cpu.pc = s.cpu.pc := rfl
@[simp] theorem State.setD16_cpu_ime (s : State) (v : Word) : (s.setD16 v).cpu.ime = s.cpu.ime := rfl
@[simp] theorem State.setD16_cpu_halted (s : State) (v : Word) : (s.setD16 v).cpu.halted = s.cpu.halted := rfl
@[simp] theorem State.setD16_cpu_stage (s : State) (v : Word) : (s.setD16 v).cpu.stage = s.cpu.stage := rfl
@[simp] theorem State.setD16_cpu_d8 (s : State) (v : Word) : (s.setD16 v).cpu.d8 = s.cpu.d8 := rfl
@[simp] theorem State.setD16_cpu_d16 (s : State) (v : Word) : (s.setD16 v).cpu.d16 = v := rfl
@[simp] theorem State.setD16_cpu_pf (s : State) (v : Word) : (s.setD16 v).cpu.pf = s.cpu.pf := rfl
@[simp] theorem State.setD16_cpu_ei (s : State) (v : Word) : (s.setD16 v).cpu.ei = s.cpu.ei := rfl
@[simp] theorem State.setD16_cpu_di (s : State) (v : Word) : (s.setD16 v).cpu.di = s.cpu.di := rfl
@[simp] theorem State.setD16_cpu_ir (s : State) (v : Word) : (s.setD16 v).cpu.ir = s.cpu.ir := rfl
@[simp] theorem State.setD16_cpu_fatal (s : State) (v : Word) : (s.setD16 v).cpu.fatal = s.cpu.fatal := rfl

/-! ### `State.setPf` -/

@[simp] theorem State.setPf_irq (s : State) (f : Flags) : (s.setPf f).irq = s.irq := rfl
@[simp] theorem State.setPf_timer (s : State) (f : Flags) : (s.setPf f).timer = s.timer := rfl
@[simp] theorem State.setPf_joypad (s : State) (f : Flags) : (s.setPf f).joypad = s.joypad := rfl
@[simp] theorem State.setPf_bus (s : State) (f : Flags) : (s.setPf f).bus = s.bus := rfl
@[simp] theorem State.setPf_ppu (s : State) (f : Flags) : (s.setPf f).ppu = s.ppu := rfl
@[simp] theorem State.setPf_mem (s : State) (f : Flags) : (s.setPf f).mem = s.mem := rfl
@[simp] theorem State.setPf_bootRom (s : State) (f : Flags) : (s.setPf f).bootRom = s.bootRom := rfl
@[simp] theorem State.setPf_cartRom (s : State) (f : Flags) : (s.setPf f).cartRom = s.cartRom := rfl
@[simp] theorem State.setPf_params (s : State) (f : Flags) : (s.setPf f).params = s.params := rfl
@[simp] theorem State.setPf_hostQueue (s : State) (f : Flags) : (s.setPf f).hostQueue = s.hostQueue := rfl
@[simp] theorem State.setPf_rowsReady (s : State) (f : Flags) : (s.setPf f).rowsReady = s.rowsReady := rfl
@[simp] theorem State.setPf_cpu_a (s : State) (f : Flags) : (s.setPf f).cpu.a = s.cpu.a := rfl
@[simp] theorem State.setPf_cpu_b (s : State) (f : Flags) : (s.setPf f).cpu.b = s.cpu.b := rfl
@[simp] theorem State.setPf_cpu_c (s : State) (f : Flags) : (s.setPf f).cpu.c = s.cpu.c := rfl
@[simp] theorem State.setPf_cpu_d (s : State) (f : Flags) : (s.setPf f).cpu.d = s.cpu.d := rfl
@[simp] theorem State.setPf_cpu_e (s : State) (f : Flags) : (s.setPf f).cpu.e = s.cpu.e := rfl
@[simp] theorem State.setPf_cpu_h (s : State) (f : Flags) : (s.setPf f).cpu.h = s.cpu.h := rfl
@[simp] theorem State.setPf_cpu_l (s : State) (f : Flags) : (s.setPf f).cpu.l = s.cpu.l := rfl
@[simp] theorem State.setPf_cpu_f (s : State) (f : Flags) : (s.setPf f).cpu.f = s.cpu.f := rfl
@[simp] theorem State.setPf_cpu_sp (s : State) (f : Flags) : (s.setPf f).cpu.sp = s.cpu.sp := rfl
@[simp] theorem State.setPf_cpu_pc (s : State) (f : Flags) : (s.setPf f).cpu.pc = s.cpu.pc := rfl
@[simp] theorem State.setPf_cpu_ime (s : State) (f : Flags) : (s.setPf f).cpu.ime = s.cpu.ime := rfl
@[simp] theorem State.setPf_cpu_halted (s : State) (f : Flags) : (s.setPf f).cpu.halted = s.cpu.halted := rfl
@[simp] theorem State.setPf_cpu_stage (s : State) (f : Flags) : (s.setPf f).cpu.stage = s.cpu.stage := rfl
@[simp] theorem State.setPf_cpu_d8 (s : State) (f : Flags) : (s.setPf f).cpu.d8 = s.cpu.d8 := rfl
@[simp] theorem State.setPf_cpu_d16 (s : State) (f : Flags) : (s.setPf f).cpu.d16 = s.cpu.d16 := rfl
@[simp] theorem State.setPf_cpu_pf (s : State) (f : Flags) : (s.setPf f).cpu.pf = f := rfl
@[simp] theorem State.setPf_cpu_ei (s : State) (f : Flags) : (s.setPf f).cpu.ei = s.cpu.ei := rfl
@[simp] theorem State.setPf_cpu_di (s : State) (f : Flags) : (s.setPf f).cpu.di = s.cpu.di := rfl
@[simp] theorem State.setPf_cpu_ir (s : State) (f : Flags) : (s.setPf f).cpu.ir = s.cpu.ir := rfl
@[simp] theorem State.setPf_cpu_fatal (s : State) (f : Flags) : (s.setPf f).cpu.fatal = s.cpu.fatal := rfl

/-! ### `State.retire` -/

@[simp] theorem State.retire_irq (s : State) (p : Word) : (s.retire p).irq = s.irq := rfl
@[simp] theorem State.retire_timer (s : State) (p : Word) : (s.retire p).timer = s.timer := rfl
@[simp] theorem State.retire_joypad (s : State) (p : Word) : (s.retire p).joypad = s.joypad := rfl
@[simp] theorem State.retire_bus (s : State) (p : Word) : (s.retire p).bus = s.bus := rfl
@[simp] theorem State.retire_ppu (s : State) (p : Word) : (s.retire p).ppu = s.ppu := rfl
@[simp] theorem State.retire_mem (s : State) (p : Word) : (s.retire p).mem = s.mem := rfl
@[simp] theorem State.retire_bootRom (s : State) (p : Word) : (s.retire p).bootRom = s.bootRom := rfl
@[simp] theorem State.retire_cartRom (s : State) (p : Word) : (s.retire p).cartRom = s.cartRom := rfl
@[simp] theorem State.retire_params (s : State) (p : Word) : (s.retire p).params = s.params := rfl
@[simp] theorem State.retire_hostQueue (s : State) (p : Word) : (s.retire p).hostQueue = s.hostQueue := rfl
@[simp] theorem State.retire_rowsReady (s : State) (p : Word) : (s.retire p).rowsReady = s.rowsReady := rfl
@[simp] theorem State.retire_cpu_a (s : State) (p : Word) : (s.retire p).cpu.a = s.cpu.a := rfl
@[simp] theorem State.retire_cpu_b (s : State) (p : Word) : (s.retire p).cpu.b = s.cpu.b := rfl
@[simp] theorem State.retire_cpu_c (s : State) (p : Word) : (s.retire p).cpu.c = s.cpu.c := rfl
@[simp] theorem State.retire_cpu_d (s : State) (p : Word) : (s.retire p).cpu.d = s.cpu.d := rfl
@[simp] theorem State.retire_cpu_e (s : State) (p : Word) : (s.retire p).cpu.e = s.cpu.e := rfl
@[simp] theorem State.retire_cpu_h (s : State) (p : Word) : (s.retire p).cpu.h = s.cpu.h := rfl
@[simp] theorem State.retire_cpu_l (s : State) (p : Word) : (s.retire p).cpu.l = s.cpu.l := rfl
@[simp] theorem State.retire_cpu_f (s : State) (p : Word) : (s.retire p).cpu.f = s.cpu.f := rfl
@[simp] theorem State.retire_cpu_sp (s : State) (p : Word) : (s.retire p).cpu.sp = s.cpu.sp := rfl
@[simp] theorem State.retire_cpu_pc (s : State) (p : Word) : (s.retire p).cpu.pc = p := rfl
@[simp] theorem State.retire_cpu_ime (s : State) (p : Word) : (s.retire p).cpu.ime = s.cpu.ime := rfl
@[simp] theorem State.retire_cpu_halted (s : State) (p : Word) : (s.retire p).cpu.halted = s.cpu.halted := rfl
@[simp] theorem State.retire_cpu_stage (s : State) (p : Word) : (s.retire p).cpu.stage = 0 := rfl
@[simp] theorem State.retire_cpu_d8 (s : State) (p : Word) : (s.retire p).cpu.d8 = 0x00 := rfl
@[simp] theorem State.retire_cpu_d16 (s : State) (p : Word) : (s.retire p).cpu.d16 = 0x0000 := rfl
@[simp] theorem State.retire_cpu_pf (s : State) (p : Word) : (s.retire p).cpu.pf = Flags.clear := rfl
@[simp] theorem State.retire_cpu_ei (s : State) (p : Word) : (s.retire p).cpu.ei = false := rfl
@[simp] theorem State.retire_cpu_di (s : State) (p : Word) : (s.retire p).cpu.di = false := rfl
@[simp] theorem State.retire_cpu_ir (s : State) (p : Word) : (s.retire p).cpu.ir = s.cpu.ir := rfl
@[simp] theorem State.retire_cpu_fatal (s : State) (p : Word) : (s.retire p).cpu.fatal = s.cpu.fatal := rfl

/-! ### `State.advance` -/

@[simp] theorem State.advance_irq (s : State) (n : Word) : (s.advance n).irq = s.irq := rfl
@[simp] theorem State.advance_timer (s : State) (n : Word) : (s.advance n).timer = s.timer := rfl
@[simp] theorem State.advance_joypad (s : State) (n : Word) : (s.advance n).joypad = s.joypad := rfl
@[simp] theorem State.advance_bus (s : State) (n : Word) : (s.advance n).bus = s.bus := rfl
@[simp] theorem State.advance_ppu (s : State) (n : Word) : (s.advance n).ppu = s.ppu := rfl
@[simp] theorem State.advance_mem (s : State) (n : Word) : (s.advance n).mem = s.mem := rfl
@[simp] theorem State.advance_bootRom (s : State) (n : Word) : (s.advance n).bootRom = s.bootRom := rfl
@[simp] theorem State.advance_cartRom (s : State) (n : Word) : (s.advance n).cartRom = s.cartRom := rfl
@[simp] theorem State.advance_params (s : State) (n : Word) : (s.advance n).params = s.params := rfl
@[simp] theorem State.advance_hostQueue (s : State) (n : Word) : (s.advance n).hostQueue = s.hostQueue := rfl
@[simp] theorem State.advance_rowsReady (s : State) (n : Word) : (s.advance n).rowsReady = s.rowsReady := rfl
@[simp] theorem State.advance_cpu_a (s : State) (n : Word) : (s.advance n).cpu.a = s.cpu.a := rfl
@[simp] theorem State.advance_cpu_b (s : State) (n : Word) : (s.advance n).cpu.b = s.cpu.b := rfl
@[simp] theorem State.advance_cpu_c (s : State) (n : Word) : (s.advance n).cpu.c = s.cpu.c := rfl
@[simp] theorem State.advance_cpu_d (s : State) (n : Word) : (s.advance n).cpu.d = s.cpu.d := rfl
@[simp] theorem State.advance_cpu_e (s : State) (n : Word) : (s.advance n).cpu.e = s.cpu.e := rfl
@[simp] theorem State.advance_cpu_h (s : State) (n : Word) : (s.advance n).cpu.h = s.cpu.h := rfl
@[simp] theorem State.advance_cpu_l (s : State) (n : Word) : (s.advance n).cpu.l = s.cpu.l := rfl
@[simp] theorem State.advance_cpu_f (s : State) (n : Word) : (s.advance n).cpu.f = s.cpu.f := rfl
@[simp] theorem State.advance_cpu_sp (s : State) (n : Word) : (s.advance n).cpu.sp = s.cpu.sp := rfl
@[simp] theorem State.advance_cpu_pc (s : State) (n : Word) : (s.advance n).cpu.pc = s.cpu.pc + n := rfl
@[simp] theorem State.advance_cpu_ime (s : State) (n : Word) : (s.advance n).cpu.ime = s.cpu.ime := rfl
@[simp] theorem State.advance_cpu_halted (s : State) (n : Word) : (s.advance n).cpu.halted = s.cpu.halted := rfl
@[simp] theorem State.advance_cpu_stage (s : State) (n : Word) : (s.advance n).cpu.stage = 0 := rfl
@[simp] theorem State.advance_cpu_d8 (s : State) (n : Word) : (s.advance n).cpu.d8 = 0x00 := rfl
@[simp] theorem State.advance_cpu_d16 (s : State) (n : Word) : (s.advance n).cpu.d16 = 0x0000 := rfl
@[simp] theorem State.advance_cpu_pf (s : State) (n : Word) : (s.advance n).cpu.pf = Flags.clear := rfl
@[simp] theorem State.advance_cpu_ei (s : State) (n : Word) : (s.advance n).cpu.ei = false := rfl
@[simp] theorem State.advance_cpu_di (s : State) (n : Word) : (s.advance n).cpu.di = false := rfl
@[simp] theorem State.advance_cpu_ir (s : State) (n : Word) : (s.advance n).cpu.ir = s.cpu.ir := rfl
@[simp] theorem State.advance_cpu_fatal (s : State) (n : Word) : (s.advance n).cpu.fatal = s.cpu.fatal := rfl

/-! ### `State.nextStage` -/

@[simp] theorem State.nextStage_irq (s : State) : (s.nextStage).irq = s.irq := rfl
@[simp] theorem State.nextStage_timer (s : State) : (s.nextStage).timer = s.timer := rfl
@[simp] theorem State.nextStage_joypad (s : State) : (s.nextStage).joypad = s.joypad := rfl
@[simp] theorem State.nextStage_bus (s : State) : (s.nextStage).bus = s.bus := rfl
@[simp] theorem State.nextStage_ppu (s : State) : (s.nextStage).ppu = s.ppu := rfl
@[simp] theorem State.nextStage_mem (s : State) : (s.nextStage).mem = s.mem := rfl
@[simp] theorem State.nextStage_bootRom (s : State) : (s.nextStage).bootRom = s.bootRom := rfl
@[simp] theorem State.nextStage_cartRom (s : State) : (s.nextStage).cartRom = s.cartRom := rfl
@[simp] theorem State.nextStage_params (s : State) : (s.nextStage).params = s.params := rfl
@[simp] theorem State.nextStage_hostQueue (s : State) : (s.nextStage).hostQueue = s.hostQueue := rfl
@[simp] theorem State.nextStage_rowsReady (s : State) : (s.nextStage).rowsReady = s.rowsReady := rfl
@[simp] theorem State.nextStage_cpu_a (s : State) : (s.nextStage).cpu.a = s.cpu.a := rfl
@[simp] theorem State.nextStage_cpu_b (s : State) : (s.nextStage).cpu.b = s.cpu.b := rfl
@[simp] theorem State.nextStage_cpu_c (s : State) : (s.nextStage).cpu.c = s.cpu.c := rfl
@[simp] theorem State.nextStage_cpu_d (s : State) : (s.nextStage).cpu.d = s.cpu.d := rfl
@[simp] theorem State.nextStage_cpu_e (s : State) : (s.nextStage).cpu.e = s.cpu.e := rfl
@[simp] theorem State.nextStage_cpu_h (s : State) : (s.nextStage).cpu.h = s.cpu.h := rfl
@[simp] theorem State.nextStage_cpu_l (s : State) : (s.nextStage).cpu.l = s.cpu.l := rfl
@[simp] theorem State.nextStage_cpu_f (s : State) : (s.nextStage).cpu.f = s.cpu.f := rfl
@[simp] theorem State.nextStage_cpu_sp (s : State) : (s.nextStage).cpu.sp = s.cpu.sp := rfl
@[simp] theorem State.nextStage_cpu_pc (s : State) : (s.nextStage).cpu.pc = s.cpu.pc := rfl
@[simp] theorem State.nextStage_cpu_ime (s : State) : (s.nextStage).cpu.ime = s.cpu.ime := rfl
@[simp] theorem State.nextStage_cpu_halted (s : State) : (s.nextStage).cpu.halted = s.cpu.halted := rfl
@[simp] theorem State.nextStage_cpu_stage (s : State) : (s.nextStage).cpu.stage = s.cpu.stage + 1 := rfl
@[simp] theorem State.nextStage_cpu_d8 (s : State) : (s.nextStage).cpu.d8 = s.cpu.d8 := rfl
@[simp] theorem State.nextStage_cpu_d16 (s : State) : (s.nextStage).cpu.d16 = s.cpu.d16 := rfl
@[simp] theorem State.nextStage_cpu_pf (s : State) : (s.nextStage).cpu.pf = s.cpu.pf := rfl
@[simp] theorem State.nextStage_cpu_ei (s : State) : (s.nextStage).cpu.ei = s.cpu.ei := rfl
@[simp] theorem State.nextStage_cpu_di (s : State) : (s.nextStage).cpu.di = s.cpu.di := rfl
@[simp] theorem State.nextStage_cpu_ir (s : State) : (s.nextStage).cpu.ir = s.cpu.ir := rfl
@[simp] theorem State.nextStage_cpu_fatal (s : State) : (s.nextStage).cpu.fatal = s.cpu.fatal := rfl

/-! ### `State.setR8` -/

@[simp] theorem State.setR8_irq (s : State) (r : Reg8) (v : Byte) : (s.setR8 r v).irq = s.irq := rfl
@[simp] theorem State.setR8_timer (s : State) (r : Reg8) (v : Byte) : (s.setR8 r v).timer = s.timer := rfl
@[simp] theorem State.setR8_joypad (s : State) (r : Reg8) (v : Byte) : (s.setR8 r v).joypad = s.joypad := rfl
@[simp] theorem State.setR8_bus (s : State) (r : Reg8) (v : Byte) : (s.setR8 r v).bus = s.bus := rfl
@[simp] theorem State.setR8_ppu (s : State) (r : Reg8) (v : Byte) : (s.setR8 r v).ppu = s.ppu := rfl
@[simp] theorem State.setR8_mem (s : State) (r : Reg8) (v : Byte) : (s.setR8 r v).mem = s.mem := rfl
@[simp] theorem State.setR8_bootRom (s : State) (r : Reg8) (v : Byte) : (s.setR8 r v).bootRom = s.bootRom := rfl
@[simp] theorem State.setR8_cartRom (s : State) (r : Reg8) (v : Byte) : (s.setR8 r v).cartRom = s.cartRom := rfl
@[simp] theorem State.setR8_params (s : State) (r : Reg8) (v : Byte) : (s.setR8 r v).params = s.params := rfl
@[simp] theorem State.setR8_hostQueue (s : State) (r : Reg8) (v : Byte) : (s.setR8 r v).hostQueue = s.hostQueue := rfl
@[simp] theorem State.setR8_rowsReady (s : State) (r : Reg8) (v : Byte) : (s.setR8 r v).rowsReady = s.rowsReady := rfl
@[simp] theorem State.setR8_cpu_f (s : State) (r : Reg8) (v : Byte) : (s.setR8 r v).cpu.f = s.cpu.f := by cases r <;> rfl
@[simp] theorem State.setR8_cpu_sp (s : State) (r : Reg8) (v : Byte) : (s.setR8 r v).cpu.sp = s.cpu.sp := by cases r <;> rfl
@[simp] theorem State.setR8_cpu_pc (s : State) (r : Reg8) (v : Byte) : (s.setR8 r v).cpu.pc = s.cpu.pc := by cases r <;> rfl
@[simp] theorem State.setR8_cpu_ime (s : State) (r : Reg8) (v : Byte) : (s.setR8 r v).cpu.ime = s.cpu.ime := by cases r <;> rfl
@[simp] theorem State.setR8_cpu_halted (s : State) (r : Reg8) (v : Byte) : (s.setR8 r v).cpu.halted = s.cpu.halted := by cases r <;> rfl
@[simp] theorem State.setR8_cpu_stage (s : State) (r : Reg8) (v : Byte) : (s.setR8 r v).cpu.stage = s.cpu.stage := by cases r <;> rfl
@[simp] theorem State.setR8_cpu_d8 (s : State) (r : Reg8) (v : Byte) : (s.setR8 r v).cpu.d8 = s.cpu.d8 := by cases r <;> rfl
@[simp] theorem State.setR8_cpu_d16 (s : State) (r : Reg8) (v : Byte) : (s.setR8 r v).cpu.d16 = s.cpu.d16 := by cases r <;> rfl
@[simp] theorem State.setR8_cpu_pf (s : State) (r : Reg8) (v : Byte) : (s.setR8 r v).cpu.pf = s.cpu.pf := by cases r <;> rfl
@[simp] theorem State.setR8_cpu_ei (s : State) (r : Reg8) (v : Byte) : (s.setR8 r v).cpu.ei = s.cpu.ei := by cases r <;> rfl
@[simp] theorem State.setR8_cpu_di (s : State) (r : Reg8) (v : Byte) : (s.setR8 r v).cpu.di = s.cpu.di := by cases r <;> rfl
@[simp] theorem State.setR8_cpu_ir (s : State) (r : Reg8) (v : Byte) : (s.setR8 r v).cpu.ir = s.cpu.ir := by cases r <;> rfl
@[simp] theorem State.setR8_cpu_fatal (s : State) (r : Reg8) (v : Byte) : (s.setR8 r v).cpu.fatal = s.cpu.fatal := by cases r <;> rfl

/-! ### `State.setR16` -/

@[simp] theorem State.setR16_irq (s : State) (r : Reg16) (v : Word) : (s.setR16 r v).irq = s.irq := rfl
@[simp] theorem State.setR16_timer (s : State) (r : Reg16) (v : Word) : (s.setR16 r v).timer = s.timer := rfl
@[simp] theorem State.setR16_joypad (s : State) (r : Reg16) (v : Word) : (s.setR16 r v).joypad = s.joypad := rfl
@[simp] theorem State.setR16_bus (s : State) (r : Reg16) (v : Word) : (s.setR16 r v).bus = s.bus := rfl
@[simp] theorem State.setR16_ppu (s : State) (r : Reg16) (v : Word) : (s.setR16 r v).ppu = s.ppu := rfl
@[simp] theorem State.setR16_mem (s : State) (r : Reg16) (v : Word) : (s.setR16 r v).mem = s.mem := rfl
@[simp] theorem State.setR16_bootRom (s : State) (r : Reg16) (v : Word) : (s.setR16 r v).bootRom = s.bootRom := rfl
@[simp] theorem State.setR16_cartRom (s : State) (r : Reg16) (v : Word) : (s.setR16 r v).cartRom = s.cartRom := rfl
@[simp] theorem State.setR16_params (s : State) (r : Reg16) (v : Word) : (s.setR16 r v).params = s.params := rfl
@[simp] theorem State.setR16_hostQueue (s : State) (r : Reg16) (v : Word) : (s.setR16 r v).hostQueue = s.hostQueue := rfl
@[simp] theorem State.setR16_rowsReady (s : State) (r : Reg16) (v : Word) : (s.setR16 r v).rowsReady = s.rowsReady := rfl
@[simp] theorem State.setR16_cpu_a (s : State) (r : Reg16) (v : Word) : (s.setR16 r v).cpu.a = s.cpu.a := by cases r <;> rfl
@[simp] theorem State.setR16_cpu_f (s : State) (r : Reg16) (v : Word) : (s.setR16 r v).cpu.f = s.cpu.f := by cases r <;> rfl
@[simp] theorem State.setR16_cpu_pc (s : State) (r : Reg16) (v : Word) : (s.setR16 r v).cpu.pc = s.cpu.pc := by cases r <;> rfl
@[simp] theorem State.setR16_cpu_ime (s : State) (r : Reg16) (v : Word) : (s.setR16 r v).cpu.ime = s.cpu.ime := by cases r <;> rfl
@[simp] theorem State.setR16_cpu_halted (s : State) (r : Reg16) (v : Word) : (s.setR16 r v).cpu.halted = s.cpu.halted := by cases r <;> rfl
@[simp] theorem State.setR16_cpu_stage (s : State) (r : Reg16) (v : Word) : (s.setR16 r v).cpu.stage = s.cpu.stage := by cases r <;> rfl
@[simp] theorem State.setR16_cpu_d8 (s : State) (r : Reg16) (v : Word) : (s.setR16 r v).cpu.d8 = s.cpu.d8 := by cases r <;> rfl
@[simp] theorem State.setR16_cpu_d16 (s : State) (r : Reg16) (v : Word) : (s.setR16 r v).cpu.d16 = s.cpu.d16 := by cases r <;> rfl
@[simp] theorem State.setR16_cpu_pf (s : State) (r : Reg16) (v : Word) : (s.setR16 r v).cpu.pf = s.cpu.pf := by cases r <;> rfl
@[simp] theorem State.setR16_cpu_ei (s : State) (r : Reg16) (v : Word) : (s.setR16 r v).cpu.ei = s.cpu.ei := by cases r <;> rfl
@[simp] theorem State.setR16_cpu_di (s : State) (r : Reg16) (v : Word) : (s.setR16 r v).cpu.di = s.cpu.di := by cases r <;> rfl
@[simp] theorem State.setR16_cpu_ir (s : State) (r : Reg16) (v : Word) : (s.setR16 r v).cpu.ir = s.cpu.ir := by cases r <;> rfl
@[simp] theorem State.setR16_cpu_fatal (s : State) (r : Reg16) (v : Word) : (s.setR16 r v).cpu.fatal = s.cpu.fatal := by cases r <;> rfl

/-! ### `State.setR16s` -/

@[simp] theorem State.setR16s_irq (s : State) (r : Reg16s) (v : Word) : (s.setR16s r v).irq = s.irq := rfl
@[simp] theorem State.setR16s_timer (s : State) (r : Reg16s) (v : Word) : (s.setR16s r v).timer = s.timer := rfl
@[simp] theorem State.setR16s_joypad (s : State) (r : Reg16s) (v : Word) : (s.setR16s r v).joypad = s.joypad := rfl
@[simp] theorem State.setR16s_bus (s : State) (r : Reg16s) (v : Word) : (s.setR16s r v).bus = s.bus := rfl
@[simp] theorem State.setR16s_ppu (s : State) (r : Reg16s) (v : Word) : (s.setR16s r v).ppu = s.ppu := rfl
@[simp] theorem State.setR16s_mem (s : State) (r : Reg16s) (v : Word) : (s.setR16s r v).mem = s.mem := rfl
@[simp] theorem State.setR16s_bootRom (s : State) (r : Reg16s) (v : Word) : (s.setR16s r v).bootRom = s.bootRom := rfl
@[simp] theorem State.setR16s_cartRom (s : State) (r : Reg16s) (v : Word) : (s.setR16s r v).cartRom = s.cartRom := rfl
@[simp] theorem State.setR16s_params (s : State) (r : Reg16s) (v : Word) : (s.setR16s r v).params = s.params := rfl
@[simp] theorem State.setR16s_hostQueue (s : State) (r : Reg16s) (v : Word) : (s.setR16s r v).hostQueue = s.hostQueue := rfl
@[simp] theorem State.setR16s_rowsReady (s : State) (r : Reg16s) (v : Word) : (s.setR16s r v).rowsReady = s.rowsReady := rfl
@[simp] theorem State.setR16s_cpu_sp (s : State) (r : Reg16s) (v : Word) : (s.setR16s r v).cpu.sp = s.cpu.sp := by cases r <;> rfl
@[simp] theorem State.setR16s_cpu_pc (s : State) (r : Reg16s) (v : Word) : (s.setR16s r v).cpu.pc = s.cpu.pc := by cases r <;> rfl
@[simp] theorem State.setR16s_cpu_ime (s : State) (r : Reg16s) (v : Word) : (s.setR16s r v).cpu.ime = s.cpu.ime := by cases r <;> rfl
@[simp] theorem State.setR16s_cpu_halted (s : State) (r : Reg16s) (v : Word) : (s.setR16s r v).cpu.halted = s.cpu.halted := by cases r <;> rfl
@[simp] theorem State.setR16s_cpu_stage (s : State) (r : Reg16s) (v : Word) : (s.setR16s r v).cpu.stage = s.cpu.stage := by cases r <;> rfl
@[simp] theorem State.setR16s_cpu_d8 (s : State) (r : Reg16s) (v : Word) : (s.setR16s r v).cpu.d8 = s.cpu.d8 := by cases r <;> rfl
@[simp] theorem State.setR16s_cpu_d16 (s : State) (r : Reg16s) (v : Word) : (s.setR16s r v).cpu.d16 = s.cpu.d16 := by cases r <;> rfl
@[simp] theorem State.setR16s_cpu_pf (s : State) (r : Reg16s) (v : Word) : (s.setR16s r v).cpu.pf = s.cpu.pf := by cases r <;> rfl
@[simp] theorem State.setR16s_cpu_ei (s : State) (r : Reg16s) (v : Word) : (s.setR16s r v).cpu.ei = s.cpu.ei := by cases r <;> rfl
@[simp] theorem State.setR16s_cpu_di (s : State) (r : Reg16s) (v : Word) : (s.setR16s r v).cpu.di = s.cpu.di := by cases r <;> rfl
@[simp] theorem State.setR16s_cpu_ir (s : State) (r : Reg16s) (v : Word) : (s.setR16s r v).cpu.ir = s.cpu.ir := by cases r <;> rfl
@[simp] theorem State.setR16s_cpu_fatal (s : State) (r : Reg16s) (v : Word) : (s.setR16s r v).cpu.fatal = s.cpu.fatal := by cases r <;> rfl

/-! ### Another CPU -/

/-- The state with another CPU. -/
def State.withCpu (s : State) (c : Cpu) : State := { s with cpu := c }

@[simp] theorem State.withCpu_cpu (s : State) (c : Cpu) : (s.withCpu c).cpu = c := rfl
@[simp] theorem State.withCpu_irq (s : State) (c : Cpu) : (s.withCpu c).irq = s.irq := rfl
@[simp] theorem State.withCpu_timer (s : State) (c : Cpu) : (s.withCpu c).timer = s.timer := rfl
@[simp] theorem State.withCpu_joypad (s : State) (c : Cpu) : (s.withCpu c).joypad = s.joypad := rfl
@[simp] theorem State.withCpu_bus (s : State) (c : Cpu) : (s.withCpu c).bus = s.bus := rfl
@[simp] theorem State.withCpu_ppu (s : State) (c : Cpu) : (s.withCpu c).ppu = s.ppu := rfl
@[simp] theorem State.withCpu_mem (s : State) (c : Cpu) : (s.withCpu c).mem = s.mem := rfl
@[simp] theorem State.withCpu_bootRom (s : State) (c : Cpu) : (s.withCpu c).bootRom = s.bootRom := rfl
@[simp] theorem State.withCpu_cartRom (s : State) (c : Cpu) : (s.withCpu c).cartRom = s.cartRom := rfl
@[simp] theorem State.withCpu_params (s : State) (c : Cpu) : (s.withCpu c).params = s.params := rfl
@[simp] theorem State.withCpu_hostQueue (s : State) (c : Cpu) : (s.withCpu c).hostQueue = s.hostQueue := rfl
@[simp] theorem State.withCpu_rowsReady (s : State) (c : Cpu) : (s.withCpu c).rowsReady = s.rowsReady := rfl

/-! ### Registers read back -/

theorem State.r8_setR8 (s : State) (r q : Reg8) (v : Byte) : (s.setR8 r v).r8 q = if q = r then v else s.r8 q := by
  cases r <;> cases q <;> rfl

@[simp] theorem State.r8_setR8_self (s : State) (r : Reg8) (v : Byte) : (s.setR8 r v).r8 r = v := by cases r <;> rfl

@[simp] theorem State.r16_setR16_self (s : State) (r : Reg16) (v : Word) : (s.setR16 r v).r16 r = v := by
  cases r <;> simp [State.setR16, State.r16, Cpu.setR16, Cpu.r16]

theorem Flags.ofByte_toByte (f : Flags) : Flags.ofByte f.toByte = f := by
  obtain ⟨z, n, h, c⟩ := f
  cases z <;> cases n <;> cases h <;> cases c <;> rfl

theorem Flags.toByte_low (f : Flags) : f.toByte &&& 0x0F = 0 := by
  obtain ⟨z, n, h, c⟩ := f
  cases z <;> cases n <;> cases h <;> cases c <;> rfl

/-! ### Requests -/

@[simp] theorem State.request_cpu (s : State) (k : Source) : (s.request k).cpu = s.cpu := rfl
@[simp] theorem State.requestIf_cpu (s : State) (c : Bool) (k : Source) : (s.requestIf c k).cpu = s.cpu := by
  cases c <;> rfl
@[simp] theorem State.request_timer (s : State) (k : Source) : (s.request k).timer = s.timer := rfl
@[simp] theorem State.requestIf_timer (s : State) (c : Bool) (k : Source) : (s.requestIf c k).timer = s.timer := by
  cases c <;> rfl
@[simp] theorem State.request_joypad (s : State) (k : Source) : (s.request k).joypad = s.joypad := rfl
@[simp] theorem State.requestIf_joypad (s : State) (c : Bool) (k : Source) : (s.requestIf c k).joypad = s.joypad := by
  cases c <;> rfl
@[simp] theorem State.request_bus (s : State) (k : Source) : (s.request k).bus = s.bus := rfl
@[simp] theorem State.requestIf_bus (s : State) (c : Bool) (k : Source) : (s.requestIf c k).bus = s.bus := by
  cases c <;> rfl
@[simp] theorem State.request_ppu (s : State) (k : Source) : (s.request k).ppu = s.ppu := rfl
@[simp] theorem State.requestIf_ppu (s : State) (c : Bool) (k : Source) : (s.requestIf c k).ppu = s.ppu := by
  cases c <;> rfl
@[simp] theorem State.request_mem (s : State) (k : Source) : (s.request k).mem = s.mem := rfl
@[simp] theorem State.requestIf_mem (s : State) (c : Bool) (k : Source) : (s.requestIf c k).mem = s.mem := by
  cases c <;> rfl
@[simp] theorem State.request_bootRom (s : State) (k : Source) : (s.request k).bootRom = s.bootRom := rfl
@[simp] theorem State.requestIf_bootRom (s : State) (c : Bool) (k : Source) : (s.requestIf c k).bootRom = s.bootRom := by
  cases c <;> rfl
@[simp] theorem State.request_cartRom (s : State) (k : Source) : (s.request k).cartRom = s.cartRom := rfl
@[simp] theorem State.requestIf_cartRom (s : State) (c : Bool) (k : Source) : (s.requestIf c k).cartRom = s.cartRom := by
  cases c <;> rfl
@[simp] theorem State.request_params (s : State) (k : Source) : (s.request k).params = s.params := rfl
@[simp] theorem State.requestIf_params (s : State) (c : Bool) (k : Source) : (s.requestIf c k).params = s.params := by
  cases c <;> rfl
@[simp] theorem State.request_hostQueue (s : State) (k : Source) : (s.request k).hostQueue = s.hostQueue := rfl
@[simp] theorem State.requestIf_hostQueue (s : State) (c : Bool) (k : Source) : (s.requestIf c k).hostQueue = s.hostQueue := by
  cases c <;> rfl
@[simp] theorem State.request_rowsReady (s : State) (k : Source) : (s.request k).rowsReady = s.rowsReady := rfl
@[simp] theorem State.requestIf_rowsReady (s : State) (c : Bool) (k : Source) : (s.requestIf c k).rowsReady = s.rowsReady := by
  cases c <;> rfl
@[simp] theorem State.request_iflag (s : State) (k : Source) : (s.request k).irq.iflag = s.irq.iflag ||| k.bit := rfl
@[simp] theorem State.request_ie (s : State) (k : Source) : (s.request k).irq.ie = s.irq.ie := rfl
@[simp] theorem State.requestIf_ie (s : State) (c : Bool) (k : Source) : (s.requestIf c k).irq.ie = s.irq.ie := by
  cases c <;> rfl
theorem State.requestIf_iflag (s : State) (c : Bool) (k : Source) :
    (s.requestIf c k).irq.iflag = if c then s.irq.iflag ||| k.bit else s.irq.iflag := by
  cases c <;> rfl

end Sys2Proof.Machine
end

