-- ==== Sys2Proof/Laws/Bus.lean ====
section
/-! SUPPORT. What a bus write and the CPU's part of a machine cycle can change, said once. -/

namespace Sys2Proof.Machine

/-! ### Canonical storage with bounded addresses -/

theorem Memory.Inv.write {m : Memory} {p : Nat → Bool} (h : m.Inv p) {a : Nat} (ha : p a = true) (v : Byte) :
    (m.write a v).Inv p :=
  ⟨Memory.wf_write m a v h.canonical, fun c hc => by
    rcases Memory.mem_write m a v c hc with e | hc
    · rw [e]; exact ha
    · exact h.addresses c hc⟩

theorem Memory.Inv.writeAll {p : Nat → Bool} (vs : List Byte) {m : Memory} (h : m.Inv p) {a : Nat}
    (ha : ∀ k, a ≤ k → k < a + vs.length → p k = true) : (m.writeAll a vs).Inv p :=
  ⟨Memory.wf_writeAll vs m a h.canonical, fun c hc => by
    rcases Memory.mem_writeAll vs m a c hc with e | hc
    · exact ha _ e.1 e.2
    · exact h.addresses c hc⟩

theorem Memory.Inv.nil (p : Nat → Bool) : Memory.Inv [] p := ⟨rfl, by simp⟩

/-! ### The address map -/

theorem storageAddress_iff (a : Nat) : storageAddress a = true ↔
    (0x8000 ≤ a ∧ a ≤ 0xDFFF) ∨ (0xFE00 ≤ a ∧ a ≤ 0xFE9F) ∨ (0xFF10 ≤ a ∧ a ≤ 0xFF3F) ∨ (0xFF80 ≤ a ∧ a ≤ 0xFFFE) := by
  simp only [storageAddress, Bool.or_eq_true, Bool.and_eq_true, decide_eq_true_eq]
  omega

/-- The address ranges of 20_memory.md R71, region by region. -/
theorem regionOf_cases (w : Word) :
    (w.toNat ≤ 0x7FFF ∧ regionOf w = .rom) ∨
    (0x8000 ≤ w.toNat ∧ w.toNat ≤ 0x9FFF ∧ regionOf w = .vram) ∨
    (0xA000 ≤ w.toNat ∧ w.toNat ≤ 0xDFFF ∧ regionOf w = .ram w.toNat) ∨
    (0xE000 ≤ w.toNat ∧ w.toNat ≤ 0xFDFF ∧ regionOf w = .ram (w.toNat - 0x2000)) ∨
    (0xFE00 ≤ w.toNat ∧ w.toNat ≤ 0xFE9F ∧ regionOf w = .oam) ∨
    (0xFEA0 ≤ w.toNat ∧ w.toNat ≤ 0xFEFF ∧ regionOf w = .unmapped) ∨
    (0xFF00 ≤ w.toNat ∧ w.toNat ≤ 0xFF7F ∧ regionOf w = .io (ioRegOf w.toNat)) ∨
    (0xFF80 ≤ w.toNat ∧ w.toNat ≤ 0xFFFE ∧ regionOf w = .ram w.toNat) ∨
    (w.toNat = 0xFFFF ∧ regionOf w = .ie) := by
  have := w.isLt
  unfold regionOf
  dsimp only
  by_cases h1 : w.toNat ≤ 0x7FFF
  · rw [if_pos h1]; exact .inl ⟨h1, rfl⟩
  rw [if_neg h1]
  by_cases h2 : w.toNat ≤ 0x9FFF
  · rw [if_pos h2]; exact .inr (.inl ⟨by omega, h2, rfl⟩)
  rw [if_neg h2]
  by_cases h3 : w.toNat ≤ 0xDFFF
  · rw [if_pos h3]; exact .inr (.inr (.inl ⟨by omega, h3, rfl⟩))
  rw [if_neg h3]
  by_cases h4 : w.toNat ≤ 0xFDFF
  · rw [if_pos h4]; exact .inr (.inr (.inr (.inl ⟨by omega, h4, rfl⟩)))
  rw [if_neg h4]
  by_cases h5 : w.toNat ≤ 0xFE9F
  · rw [if_pos h5]; exact .inr (.inr (.inr (.inr (.inl ⟨by omega, h5, rfl⟩))))
  rw [if_neg h5]
  by_cases h6 : w.toNat ≤ 0xFEFF
  · rw [if_pos h6]; exact .inr (.inr (.inr (.inr (.inr (.inl ⟨by omega, h6, rfl⟩)))))
  rw [if_neg h6]
  by_cases h7 : w.toNat ≤ 0xFF7F
  · rw [if_pos h7]; exact .inr (.inr (.inr (.inr (.inr (.inr (.inl ⟨by omega, h7, rfl⟩))))))
  rw [if_neg h7]
  by_cases h8 : w.toNat ≤ 0xFFFE
  · rw [if_pos h8]; exact .inr (.inr (.inr (.inr (.inr (.inr (.inr (.inl ⟨by omega, h8, rfl⟩)))))))
  rw [if_neg h8]
  exact .inr (.inr (.inr (.inr (.inr (.inr (.inr (.inr ⟨by omega, rfl⟩)))))))

theorem ioTable_ne_sound : ∀ row ∈ ioTable, row.2 ≠ .sound := by decide

theorem ioRegOf_sound {a : Nat} (h : ioRegOf a = .sound) : 0xFF10 ≤ a ∧ a ≤ 0xFF3F := by
  unfold ioRegOf at h
  split at h
  · assumption
  · split at h
    · rename_i row hr
      exact absurd h (ioTable_ne_sound row (List.mem_of_find?_eq_some hr))
    · cases h

theorem storage_of_vram {w : Word} (h : regionOf w = .vram) : storageAddress w.toNat = true := by
  rw [storageAddress_iff]
  obtain h' | h' | h' | h' | h' | h' | h' | h' | h' := regionOf_cases w <;> simp_all
  omega

theorem storage_of_oam {w : Word} (h : regionOf w = .oam) : storageAddress w.toNat = true := by
  rw [storageAddress_iff]
  obtain h' | h' | h' | h' | h' | h' | h' | h' | h' := regionOf_cases w <;> simp_all

theorem storage_of_ram {w : Word} {k : Nat} (h : regionOf w = .ram k) : storageAddress k = true := by
  rw [storageAddress_iff]
  obtain h' | h' | h' | h' | h' | h' | h' | h' | h' := regionOf_cases w <;> simp_all <;> omega

theorem storage_of_sound {w : Word} (h : regionOf w = .io .sound) : storageAddress w.toNat = true := by
  rw [storageAddress_iff]
  obtain h' | h' | h' | h' | h' | h' | h' | h' | h' := regionOf_cases w <;> simp_all
  have := ioRegOf_sound h
  omega

/-! ### The CPU's part of a machine cycle -/

/-- What the CPU's part of a machine cycle, whatever bus accesses it makes, cannot change outside the CPU. -/
structure CpuPart (s t : State) : Prop where
  params : t.params = s.params
  bootRom : t.bootRom = s.bootRom
  cartRom : t.cartRom = s.cartRom
  hostQueue : t.hostQueue = s.hostQueue
  rowsReady : t.rowsReady = s.rowsReady
  pressed : t.joypad.pressed = s.joypad.pressed
  mode : t.ppu.mode = s.ppu.mode
  dots : t.ppu.dots = s.ppu.dots
  ly : t.ppu.ly = s.ppu.ly
  statMode : t.ppu.statMode = s.ppu.statMode
  coincidence : t.ppu.coincidence = s.ppu.coincidence
  lineObjs : t.ppu.lineObjs = s.ppu.lineObjs
  frame : t.ppu.frame = s.ppu.frame
  div : t.timer.div = s.timer.div ∨ t.timer.div = 0x0000
  bootOff : s.bus.bootOff = true → t.bus.bootOff = true
  mem : s.mem.Inv storageAddress → t.mem.Inv storageAddress

theorem CpuPart.refl (s : State) : CpuPart s s :=
  ⟨rfl, rfl, rfl, rfl, rfl, rfl, rfl, rfl, rfl, rfl, rfl, rfl, rfl, .inl rfl, id, id⟩

theorem CpuPart.trans {s t u : State} (h : CpuPart s t) (g : CpuPart t u) : CpuPart s u where
  params := g.params.trans h.params
  bootRom := g.bootRom.trans h.bootRom
  cartRom := g.cartRom.trans h.cartRom
  hostQueue := g.hostQueue.trans h.hostQueue
  rowsReady := g.rowsReady.trans h.rowsReady
  pressed := g.pressed.trans h.pressed
  mode := g.mode.trans h.mode
  dots := g.dots.trans h.dots
  ly := g.ly.trans h.ly
  statMode := g.statMode.trans h.statMode
  coincidence := g.coincidence.trans h.coincidence
  lineObjs := g.lineObjs.trans h.lineObjs
  frame := g.frame.trans h.frame
  div := by
    rcases g.div with e | e
    · rw [e]; exact h.div
    · exact .inr e
  bootOff := g.bootOff ∘ h.bootOff
  mem := g.mem ∘ h.mem

/-- A change inside the CPU alone. -/
theorem CpuPart.ofCpu (s : State) (c : Cpu) : CpuPart s { s with cpu := c } :=
  ⟨rfl, rfl, rfl, rfl, rfl, rfl, rfl, rfl, rfl, rfl, rfl, rfl, rfl, .inl rfl, id, id⟩

/-- A change of byte storage alone, at storage addresses. -/
theorem CpuPart.ofMem (s : State) (m : Memory) (h : s.mem.Inv storageAddress → m.Inv storageAddress) :
    CpuPart s { s with mem := m } :=
  ⟨rfl, rfl, rfl, rfl, rfl, rfl, rfl, rfl, rfl, rfl, rfl, rfl, rfl, .inl rfl, id, h⟩

theorem dmaSource_length (s : State) (v : Byte) : (dmaSource s v).length = 160 := by simp [dmaSource]

theorem storage_dma (m : Memory) (vs : List Byte) (hl : vs.length = 160) (h : m.Inv storageAddress) :
    (m.writeAll 0xFE00 vs).Inv storageAddress := by
  refine h.writeAll vs fun k h1 h2 => ?_
  rw [storageAddress_iff]
  omega

theorem dmaWrite_cpuPart (s : State) (v : Byte) : CpuPart s (dmaWrite s v) := by
  unfold dmaWrite
  have h : CpuPart s { s with bus := { s.bus with dma := v } } :=
    ⟨rfl, rfl, rfl, rfl, rfl, rfl, rfl, rfl, rfl, rfl, rfl, rfl, rfl, .inl rfl, id, id⟩
  dsimp only
  split
  · exact h.trans (CpuPart.ofMem _ _ (storage_dma _ _ (dmaSource_length _ _)))
  · exact h

/-- What a bus write cannot change. -/
theorem memWrite_cpuPart (s : State) (a : Word) (v : Byte) : CpuPart s (memWrite s a v) := by
  unfold memWrite
  split
  · exact CpuPart.refl s
  · rename_i hr
    split
    · exact CpuPart.refl s
    · exact CpuPart.ofMem _ _ fun h => h.write (storage_of_vram hr) v
  · rename_i key hr
    exact CpuPart.ofMem _ _ fun h => h.write (storage_of_ram hr) v
  · rename_i hr
    split
    · exact CpuPart.refl s
    · exact CpuPart.ofMem _ _ fun h => h.write (storage_of_oam hr) v
  · exact CpuPart.refl s
  · rename_i r hr
    cases r
    case sound =>
      exact CpuPart.ofMem _ _ fun h => h.write (storage_of_sound hr) v
    case dma => exact dmaWrite_cpuPart s v
    case div => exact ⟨rfl, rfl, rfl, rfl, rfl, rfl, rfl, rfl, rfl, rfl, rfl, rfl, rfl, .inr rfl, id, id⟩
    case boot =>
      simp only [ioWrite]
      split
      · exact ⟨rfl, rfl, rfl, rfl, rfl, rfl, rfl, rfl, rfl, rfl, rfl, rfl, rfl, .inl rfl, fun _ => rfl, id⟩
      · exact CpuPart.refl s
    case ly => exact CpuPart.refl s
    case none => exact CpuPart.refl s
    all_goals exact ⟨rfl, rfl, rfl, rfl, rfl, rfl, rfl, rfl, rfl, rfl, rfl, rfl, rfl, .inl rfl, id, id⟩
  · exact ⟨rfl, rfl, rfl, rfl, rfl, rfl, rfl, rfl, rfl, rfl, rfl, rfl, rfl, .inl rfl, id, id⟩

/-- A bus write changes nothing of the CPU (10_state.md R24). -/
@[simp] theorem memWrite_cpu (s : State) (a : Word) (v : Byte) : (memWrite s a v).cpu = s.cpu := by
  unfold memWrite
  split
  · rfl
  · split <;> rfl
  · rfl
  · split <;> rfl
  · rfl
  · rename_i r _
    cases r <;> try rfl
    · simp only [ioWrite]
      unfold dmaWrite; dsimp only; split <;> rfl
    · simp only [ioWrite]
      split <;> rfl
  · rfl

/-- A bus read does not look at the CPU (10_state.md R24). -/
theorem memRead_ofCpu (s : State) (c : Cpu) (a : Word) : memRead { s with cpu := c } a = memRead s a := rfl

theorem dmaWrite_withCpu (s : State) (c : Cpu) (v : Byte) : dmaWrite (s.withCpu c) v = (dmaWrite s v).withCpu c := by
  have source :
      dmaSource { s.withCpu c with bus := { (s.withCpu c).bus with dma := v } } v =
        dmaSource { s with bus := { s.bus with dma := v } } v := by
    unfold dmaSource
    exact List.map_congr_left fun _ _ => rfl
  unfold dmaWrite
  dsimp only
  rw [source]
  generalize dmaSource _ v = bytes
  by_cases h : v.toNat ≤ 0xDF
  · rw [if_pos h, if_pos h]; rfl
  · rw [if_neg h, if_neg h]; rfl

/-- A bus write does not look at the CPU (10_state.md R24). -/
theorem memWrite_withCpu (s : State) (c : Cpu) (a : Word) (v : Byte) :
    memWrite (s.withCpu c) a v = (memWrite s a v).withCpu c := by
  have vram : (s.withCpu c).vramClosed = s.vramClosed := rfl
  have oam : (s.withCpu c).oamClosed = s.oamClosed := rfl
  unfold memWrite
  split
  · rfl
  · rw [vram]
    cases s.vramClosed <;> rfl
  · rfl
  · rw [oam]
    cases s.oamClosed <;> rfl
  · rfl
  · rename_i r _
    cases r
    case dma =>
      simp only [ioWrite]
      exact dmaWrite_withCpu s c v
    case boot =>
      simp only [ioWrite]
      by_cases h : v ≠ 0
      · rw [if_pos h, if_pos h]; rfl
      · rw [if_neg h, if_neg h]
    all_goals rfl
  · rfl

/-- A push of one byte: SP goes down and the byte is written there. -/
@[simp] theorem pushByte_cpu (s : State) (v : Byte) : (pushByte s v).cpu = { s.cpu with sp := s.cpu.sp - 1 } := by
  simp [pushByte, State.setSp]

theorem pushByte_cpuPart (s : State) (v : Byte) : CpuPart s (pushByte s v) :=
  (CpuPart.ofCpu s _).trans (memWrite_cpuPart _ _ _)

end Sys2Proof.Machine
end

