-- ==== Sys2Proof/Laws/Devices.lean ====
section
/-! SUPPORT. What the timer, the PPU and the host's turn cannot change, said once; the cycle lemmas the provers cite. -/

namespace Sys2Proof.Machine

/-- What the end of a machine cycle, that is the timer, the PPU and the host's turn, cannot change. -/
structure DevicePart (s t : State) : Prop where
  cpu : t.cpu = s.cpu
  mem : t.mem = s.mem
  bootRom : t.bootRom = s.bootRom
  cartRom : t.cartRom = s.cartRom
  bus : t.bus = s.bus
  params : t.params = s.params
  ie : t.irq.ie = s.irq.ie
  iflag : s.irq.iflag &&& t.irq.iflag = s.irq.iflag
  serial : t.irq.iflag.getLsbD 3 = s.irq.iflag.getLsbD 3
  tma : t.timer.tma = s.timer.tma
  tac : t.timer.tac = s.timer.tac
  selAction : t.joypad.selAction = s.joypad.selAction
  selDir : t.joypad.selDir = s.joypad.selDir
  lcdc : t.ppu.lcdc = s.ppu.lcdc
  statEnables : t.ppu.statEnables = s.ppu.statEnables
  scy : t.ppu.scy = s.ppu.scy
  scx : t.ppu.scx = s.ppu.scx
  wy : t.ppu.wy = s.ppu.wy
  wx : t.ppu.wx = s.ppu.wx
  lyc : t.ppu.lyc = s.ppu.lyc
  bgp : t.ppu.bgp = s.ppu.bgp
  obp0 : t.ppu.obp0 = s.ppu.obp0
  obp1 : t.ppu.obp1 = s.ppu.obp1

/-- A set bit stays set under more requests. -/
theorem and_or_self (a b : BitVec 5) : a &&& (a ||| b) = a := by
  ext i; simp; tauto

theorem and_chain (a b c : BitVec 5) (h : a &&& b = a) (g : b &&& c = b) : a &&& c = a := by
  rw [← h, BitVec.and_assoc, g]

theorem DevicePart.refl (s : State) : DevicePart s s := by
  constructor <;> first | rfl | simp

theorem DevicePart.trans {s t u : State} (h : DevicePart s t) (g : DevicePart t u) : DevicePart s u where
  cpu := g.cpu.trans h.cpu
  mem := g.mem.trans h.mem
  bootRom := g.bootRom.trans h.bootRom
  cartRom := g.cartRom.trans h.cartRom
  bus := g.bus.trans h.bus
  params := g.params.trans h.params
  ie := g.ie.trans h.ie
  iflag := and_chain _ _ _ h.iflag g.iflag
  serial := g.serial.trans h.serial
  tma := g.tma.trans h.tma
  tac := g.tac.trans h.tac
  selAction := g.selAction.trans h.selAction
  selDir := g.selDir.trans h.selDir
  lcdc := g.lcdc.trans h.lcdc
  statEnables := g.statEnables.trans h.statEnables
  scy := g.scy.trans h.scy
  scx := g.scx.trans h.scx
  wy := g.wy.trans h.wy
  wx := g.wx.trans h.wx
  lyc := g.lyc.trans h.lyc
  bgp := g.bgp.trans h.bgp
  obp0 := g.obp0.trans h.obp0
  obp1 := g.obp1.trans h.obp1

/-- A request of a source other than serial. -/
theorem DevicePart.request (s : State) (k : Source) (hk : k ≠ .serial) : DevicePart s (s.request k) := by
  constructor <;> first | rfl | skip
  · exact and_or_self _ _
  · rw [State.request_iflag, BitVec.getLsbD_or]
    cases k <;> simp [Source.bit, Source.index] at hk ⊢

theorem DevicePart.requestIf (s : State) (c : Bool) (k : Source) (hk : k ≠ .serial) :
    DevicePart s (s.requestIf c k) := by
  cases c
  · exact DevicePart.refl s
  · exact DevicePart.request s k hk

/-- A change of `mode`, `dots`, LY, the read-only STAT bits, the object list, the frame and the rows handed out. -/
theorem DevicePart.ofPpu (s : State) (mode : PpuMode) (dots : Nat) (ly : Byte) (coincidence : Bool) (statMode : BitVec 2)
    (lineObjs : List (Fin 40)) (frame : Vector Row 144) (rows : List RowReady) :
    DevicePart s
      { s with
        ppu := { s.ppu with
          mode := mode, dots := dots, ly := ly, coincidence := coincidence, statMode := statMode
          lineObjs := lineObjs, frame := frame }
        rowsReady := rows } := by
  constructor <;> first | rfl | simp

theorem timerTick_devicePart (s : State) : DevicePart s (timerTick s) := by
  have h (d : Word) (t : Byte) : DevicePart s { s with timer := { s.timer with div := d, tima := t } } := by
    constructor <;> first | rfl | simp
  unfold timerTick
  dsimp only
  split
  · split
    · exact (h _ _).trans (DevicePart.request _ _ (by decide))
    · exact h _ _
  · exact h _ s.timer.tima

theorem statUpdate_devicePart (m : PpuMode) (s : State) : DevicePart s (statUpdate m s) :=
  (DevicePart.ofPpu s s.ppu.mode s.ppu.dots s.ppu.ly (s.ppu.ly == s.ppu.lyc) m.code s.ppu.lineObjs s.ppu.frame
    s.rowsReady).trans (DevicePart.requestIf _ _ _ (by decide))

theorem enterMode_devicePart (m : PpuMode) (s : State) : DevicePart s (enterMode m s) :=
  (DevicePart.ofPpu s m 0 s.ppu.ly s.ppu.coincidence s.ppu.statMode s.ppu.lineObjs s.ppu.frame s.rowsReady).trans
    (statUpdate_devicePart _ _)

/-- A mode change writes the mode and leaves LY, `line_objs`, the frame and the rows handed out. -/
theorem enterMode_leaves (m : PpuMode) (s : State) :
    (enterMode m s).ppu.mode = m ∧ (enterMode m s).ppu.ly = s.ppu.ly ∧ (enterMode m s).ppu.lineObjs = s.ppu.lineObjs ∧
      (enterMode m s).ppu.frame = s.ppu.frame ∧ (enterMode m s).rowsReady = s.rowsReady := by
  unfold enterMode statUpdate State.requestIf
  dsimp only
  split <;> exact ⟨rfl, rfl, rfl, rfl, rfl⟩

/-- Drawing a line leaves `line_objs` and the mode. -/
theorem drawLine_leaves (s : State) : (drawLine s).ppu.lineObjs = s.ppu.lineObjs ∧ (drawLine s).ppu.mode = s.ppu.mode := by
  unfold drawLine
  split <;> exact ⟨rfl, rfl⟩

theorem setLy_devicePart (v : Byte) (s : State) : DevicePart s (setLy v s) :=
  DevicePart.ofPpu s s.ppu.mode s.ppu.dots v s.ppu.coincidence s.ppu.statMode s.ppu.lineObjs s.ppu.frame s.rowsReady

theorem setDots_devicePart (d : Nat) (s : State) : DevicePart s (setDots d s) :=
  DevicePart.ofPpu s s.ppu.mode d s.ppu.ly s.ppu.coincidence s.ppu.statMode s.ppu.lineObjs s.ppu.frame s.rowsReady

theorem searchObjects_devicePart (s : State) : DevicePart s (searchObjects s) :=
  DevicePart.ofPpu s s.ppu.mode s.ppu.dots s.ppu.ly s.ppu.coincidence s.ppu.statMode (objectSearch s) s.ppu.frame
    s.rowsReady

theorem drawLine_devicePart (s : State) : DevicePart s (drawLine s) := by
  unfold drawLine
  split
  · exact DevicePart.ofPpu s s.ppu.mode s.ppu.dots s.ppu.ly s.ppu.coincidence s.ppu.statMode s.ppu.lineObjs _ _
  · exact DevicePart.refl s

theorem leaveMode0_devicePart (s : State) : DevicePart s (leaveMode0 s) := by
  unfold leaveMode0
  dsimp only
  split
  · exact ((setLy_devicePart _ _).trans (DevicePart.request _ _ (by decide))).trans (enterMode_devicePart _ _)
  · exact (setLy_devicePart _ _).trans (enterMode_devicePart _ _)

theorem countVblankLines_devicePart (d : Nat) (s : State) : DevicePart s (countVblankLines d s) := by
  unfold countVblankLines
  split
  · exact setLy_devicePart _ _
  · exact DevicePart.refl s

theorem ppuOff_devicePart (s : State) : DevicePart s (ppuOff s) :=
  DevicePart.ofPpu s .off 0 s.ppu.ly s.ppu.coincidence 0 s.ppu.lineObjs s.ppu.frame s.rowsReady

theorem advanceMode2_devicePart (s : State) : DevicePart s (advanceMode2 s) := by
  unfold advanceMode2
  split
  · exact (searchObjects_devicePart _).trans (enterMode_devicePart _ _)
  · exact setDots_devicePart _ _

theorem advanceMode3_devicePart (s : State) : DevicePart s (advanceMode3 s) := by
  unfold advanceMode3
  split
  · exact (drawLine_devicePart _).trans (enterMode_devicePart _ _)
  · exact setDots_devicePart _ _

theorem advanceMode0_devicePart (s : State) : DevicePart s (advanceMode0 s) := by
  unfold advanceMode0
  split
  · exact leaveMode0_devicePart _
  · exact setDots_devicePart _ _

theorem advanceMode1_devicePart (s : State) : DevicePart s (advanceMode1 s) := by
  unfold advanceMode1
  split
  · exact (setLy_devicePart _ _).trans (enterMode_devicePart _ _)
  · exact (setDots_devicePart _ _).trans (countVblankLines_devicePart _ _)

theorem ppuOn_devicePart (s : State) : DevicePart s (ppuOn s) := by
  unfold ppuOn
  split
  · exact (setLy_devicePart _ _).trans (enterMode_devicePart _ _)
  · exact advanceMode0_devicePart s
  · exact advanceMode1_devicePart s
  · exact advanceMode2_devicePart s
  · exact advanceMode3_devicePart s

theorem ppuAdvance_devicePart (s : State) : DevicePart s (ppuAdvance s) := by
  unfold ppuAdvance
  split
  · exact ppuOn_devicePart s
  · exact ppuOff_devicePart s

theorem deviceTick_devicePart (s : State) : DevicePart s (deviceTick s) :=
  (timerTick_devicePart s).trans (ppuAdvance_devicePart _)

theorem joypadSet_devicePart (s : State) (c : LineChange) : DevicePart s (joypadSet s c) := by
  have h (p : Buttons) : DevicePart s { s with joypad := { s.joypad with pressed := p } } := by
    constructor <;> first | rfl | simp
  unfold joypadSet
  split
  · exact DevicePart.refl s
  · exact (h _).trans (DevicePart.requestIf _ _ _ (by decide))

theorem joypadSets_devicePart (cs : List LineChange) (s : State) : DevicePart s (cs.foldl joypadSet s) := by
  induction cs generalizing s with
  | nil => exact DevicePart.refl s
  | cons c cs ih => exact (joypadSet_devicePart s c).trans (ih _)

theorem hostTurn_devicePart (s : State) : DevicePart s (hostTurn s) := by
  have h (q : List (List LineChange)) : DevicePart s { s with hostQueue := q } := by
    constructor <;> first | rfl | simp
  unfold hostTurn
  split
  · exact DevicePart.refl s
  · exact (h _).trans (joypadSets_devicePart _ _)

/-- What the end of a machine cycle cannot change. -/
theorem endCycle_devicePart (s : State) : DevicePart s (endCycle s) :=
  (deviceTick_devicePart s).trans (hostTurn_devicePart _)

@[simp] theorem endCycle_cpu (s : State) : (endCycle s).cpu = s.cpu := (endCycle_devicePart s).cpu
@[simp] theorem endCycle_mem (s : State) : (endCycle s).mem = s.mem := (endCycle_devicePart s).mem
@[simp] theorem endCycle_bootRom (s : State) : (endCycle s).bootRom = s.bootRom := (endCycle_devicePart s).bootRom
@[simp] theorem endCycle_cartRom (s : State) : (endCycle s).cartRom = s.cartRom := (endCycle_devicePart s).cartRom
@[simp] theorem endCycle_bus (s : State) : (endCycle s).bus = s.bus := (endCycle_devicePart s).bus
@[simp] theorem endCycle_params (s : State) : (endCycle s).params = s.params := (endCycle_devicePart s).params
@[simp] theorem endCycle_ie (s : State) : (endCycle s).irq.ie = s.irq.ie := (endCycle_devicePart s).ie

@[simp] theorem between_cpu (s : State) : (between s).cpu = { s.cpu with stage := s.cpu.stage + 1 } := by
  simp [between, State.nextStage]
@[simp] theorem between_mem (s : State) : (between s).mem = s.mem := by simp [between]
@[simp] theorem between_bootRom (s : State) : (between s).bootRom = s.bootRom := by simp [between]
@[simp] theorem between_cartRom (s : State) : (between s).cartRom = s.cartRom := by simp [between]
@[simp] theorem between_bus (s : State) : (between s).bus = s.bus := by simp [between]
@[simp] theorem between_params (s : State) : (between s).params = s.params := by simp [between]
@[simp] theorem between_ie (s : State) : (between s).irq.ie = s.irq.ie := by simp [between]

/-- Registers and pairs are read the same before and after the end of a cycle. -/
@[simp] theorem between_r8 (s : State) (r : Reg8) : (between s).r8 r = s.r8 r := by
  cases r <;> simp [State.r8, Cpu.r8]
@[simp] theorem between_r16 (s : State) (r : Reg16) : (between s).r16 r = s.r16 r := by
  cases r <;> simp [State.r16, Cpu.r16]
@[simp] theorem between_r16s (s : State) (r : Reg16s) : (between s).r16s r = s.r16s r := by
  cases r <;> simp [State.r16s, Cpu.r16s]
@[simp] theorem between_hl (s : State) : (between s).hl = s.hl := between_r16 s .hl

/-! ### The devices do not look at the CPU (10_state.md R24) -/

theorem request_withCpu (s : State) (k : Source) (c : Cpu) :
    (s.withCpu c).request k = (s.request k).withCpu c := rfl

theorem requestIf_withCpu (s : State) (b : Bool) (k : Source) (c : Cpu) :
    (s.withCpu c).requestIf b k = (s.requestIf b k).withCpu c := by
  cases b <;> rfl

theorem timerTick_withCpu (s : State) (c : Cpu) : timerTick (s.withCpu c) = (timerTick s).withCpu c := by
  by_cases h : (s.timer.enabled && s.timer.wraps) = true
  · by_cases g : s.timer.tima = 0xFF
    · have e : timerTick s = _ := (if_pos h).trans (if_pos g)
      rw [e]
      exact (if_pos h).trans (if_pos g)
    · have e : timerTick s = _ := (if_pos h).trans (if_neg g)
      rw [e]
      exact (if_pos h).trans (if_neg g)
  · have e : timerTick s = _ := if_neg h
    rw [e]
    exact if_neg h

theorem statUpdate_withCpu (m : PpuMode) (s : State) (c : Cpu) :
    statUpdate m (s.withCpu c) = (statUpdate m s).withCpu c :=
  requestIf_withCpu
    { s with ppu := { s.ppu with coincidence := s.ppu.ly == s.ppu.lyc, statMode := m.code } } _ _ c

theorem enterMode_withCpu (m : PpuMode) (s : State) (c : Cpu) :
    enterMode m (s.withCpu c) = (enterMode m s).withCpu c :=
  statUpdate_withCpu m { s with ppu := { s.ppu with mode := m, dots := 0 } } c

theorem drawLine_withCpu (s : State) (c : Cpu) : drawLine (s.withCpu c) = (drawLine s).withCpu c := by
  by_cases h : s.ppu.ly.toNat < 144
  · have e : drawLine s = _ := dif_pos h
    rw [e]
    exact dif_pos h
  · have e : drawLine s = s := dif_neg h
    rw [e]
    exact dif_neg h

theorem leaveMode0_withCpu (s : State) (c : Cpu) : leaveMode0 (s.withCpu c) = (leaveMode0 s).withCpu c := by
  by_cases h : s.ppu.ly + 1 = 144
  · have e : leaveMode0 s = _ := if_pos h
    rw [e, ← enterMode_withCpu]
    exact if_pos h
  · have e : leaveMode0 s = _ := if_neg h
    rw [e, ← enterMode_withCpu]
    exact if_neg h

theorem countVblankLines_withCpu (d : Nat) (s : State) (c : Cpu) :
    countVblankLines d (s.withCpu c) = (countVblankLines d s).withCpu c := by
  by_cases h : (s.params.vblankLyCounts && decide (d < 4560) && d % 456 == 0) = true
  · have e : countVblankLines d s = _ := if_pos h
    rw [e]
    exact if_pos h
  · have e : countVblankLines d s = _ := if_neg h
    rw [e]
    exact if_neg h

theorem insertByX_withCpu (s : State) (c : Cpu) (i : Fin 40) (js : List (Fin 40)) :
    insertByX (s.withCpu c) i js = insertByX s i js := by
  induction js with
  | nil => rfl
  | cons j js ih =>
    unfold insertByX
    rw [ih]
    rfl

theorem objectSearch_withCpu (s : State) (c : Cpu) : objectSearch (s.withCpu c) = objectSearch s := by
  unfold objectSearch sortByX
  simp only [insertByX_withCpu]
  rfl

theorem searchObjects_withCpu (s : State) (c : Cpu) :
    searchObjects (s.withCpu c) = (searchObjects s).withCpu c := by
  unfold searchObjects
  rw [objectSearch_withCpu]
  rfl

theorem advanceMode2_withCpu (s : State) (c : Cpu) : advanceMode2 (s.withCpu c) = (advanceMode2 s).withCpu c := by
  by_cases h : s.ppu.dots + 4 ≥ 80
  · have e : advanceMode2 s = _ := if_pos h
    rw [e, ← enterMode_withCpu, ← searchObjects_withCpu]
    exact if_pos h
  · have e : advanceMode2 s = _ := if_neg h
    rw [e]
    exact if_neg h

theorem advanceMode3_withCpu (s : State) (c : Cpu) : advanceMode3 (s.withCpu c) = (advanceMode3 s).withCpu c := by
  by_cases h : s.ppu.dots + 4 ≥ 172
  · have e : advanceMode3 s = _ := if_pos h
    rw [e, ← enterMode_withCpu, ← drawLine_withCpu]
    exact if_pos h
  · have e : advanceMode3 s = _ := if_neg h
    rw [e]
    exact if_neg h

theorem advanceMode0_withCpu (s : State) (c : Cpu) : advanceMode0 (s.withCpu c) = (advanceMode0 s).withCpu c := by
  by_cases h : s.ppu.dots + 4 ≥ 204
  · have e : advanceMode0 s = _ := if_pos h
    rw [e, ← leaveMode0_withCpu]
    exact if_pos h
  · have e : advanceMode0 s = _ := if_neg h
    rw [e]
    exact if_neg h

theorem advanceMode1_withCpu (s : State) (c : Cpu) : advanceMode1 (s.withCpu c) = (advanceMode1 s).withCpu c := by
  by_cases h : s.ppu.dots + 4 ≥ 4560
  · have e : advanceMode1 s = _ := if_pos h
    rw [e, ← enterMode_withCpu]
    exact if_pos h
  · have e : advanceMode1 s = _ := if_neg h
    rw [e, ← countVblankLines_withCpu]
    exact if_neg h

theorem ppuOn_withCpu (s : State) (c : Cpu) : ppuOn (s.withCpu c) = (ppuOn s).withCpu c := by
  unfold ppuOn
  simp only [State.withCpu_ppu]
  cases s.ppu.mode
  · exact enterMode_withCpu _ (setLy 0 s) c
  · exact advanceMode0_withCpu s c
  · exact advanceMode1_withCpu s c
  · exact advanceMode2_withCpu s c
  · exact advanceMode3_withCpu s c

theorem ppuAdvance_withCpu (s : State) (c : Cpu) : ppuAdvance (s.withCpu c) = (ppuAdvance s).withCpu c := by
  by_cases h : s.ppu.lcdEn = true
  · have e : ppuAdvance s = _ := if_pos h
    rw [e, ← ppuOn_withCpu]
    exact if_pos h
  · have e : ppuAdvance s = _ := if_neg h
    rw [e]
    exact if_neg h

theorem deviceTick_withCpu (s : State) (c : Cpu) : deviceTick (s.withCpu c) = (deviceTick s).withCpu c := by
  unfold deviceTick
  rw [timerTick_withCpu, ppuAdvance_withCpu]

theorem joypadSet_withCpu (s : State) (x : LineChange) (c : Cpu) (h : c.fatal = s.cpu.fatal) :
    joypadSet (s.withCpu c) x = (joypadSet s x).withCpu c := by
  unfold joypadSet
  simp only [State.withCpu_cpu, h]
  split
  · rfl
  · exact requestIf_withCpu
      { s with joypad := { s.joypad with pressed := s.joypad.pressed.set x.button x.pressed } } _ _ c

theorem joypadSets_withCpu (cs : List LineChange) (s : State) (c : Cpu) (h : c.fatal = s.cpu.fatal) :
    cs.foldl joypadSet (s.withCpu c) = (cs.foldl joypadSet s).withCpu c := by
  induction cs generalizing s with
  | nil => rfl
  | cons x xs ih =>
    rw [List.foldl_cons, List.foldl_cons, joypadSet_withCpu s x c h, ih]
    rw [(joypadSet_devicePart s x).cpu, h]

theorem hostTurn_withCpu (s : State) (c : Cpu) (h : c.fatal = s.cpu.fatal) :
    hostTurn (s.withCpu c) = (hostTurn s).withCpu c := by
  unfold hostTurn
  simp only [State.withCpu_hostQueue]
  cases s.hostQueue with
  | nil => rfl
  | cons x q => exact joypadSets_withCpu x { s with hostQueue := q } c h

/-- The end of a machine cycle does the same whatever the CPU holds, but that a fatal machine takes no line change. -/
theorem endCycle_withCpu (s : State) (c : Cpu) (h : c.fatal = s.cpu.fatal) :
    endCycle (s.withCpu c) = (endCycle s).withCpu c := by
  unfold endCycle
  rw [deviceTick_withCpu]
  exact hostTurn_withCpu _ c (by rw [h, (deviceTick_devicePart s).cpu])

/-- From one machine cycle to the next with another CPU. -/
theorem between_withCpu (s : State) (c : Cpu) (h : c.fatal = s.cpu.fatal) :
    between (s.withCpu c) = (between s).withCpu { c with stage := c.stage + 1 } := by
  have e : between s = (endCycle s).withCpu { s.cpu with stage := s.cpu.stage + 1 } := endCycle_withCpu s _ rfl
  rw [e]
  exact endCycle_withCpu s { c with stage := c.stage + 1 } h

end Sys2Proof.Machine
end

