-- ==== Sys2Proof/Laws/Cycles.lean ====
section
/-! SUPPORT. Every meaning as a run of its machine cycles, and what no machine cycle of any instruction can change. -/

namespace Sys2Proof.Machine

/-! ### A meaning is the run of its cycles -/

/-- The meaning of every instruction is the run of its schedule. -/
theorem exec_eq (i : Instr) (s : State) : exec i s = .next (runCycles (cyclesOf i) s) := by
  cases i <;> rfl

@[simp] theorem runCycles_nil (s : State) : runCycles [] s = s := rfl

theorem runCycles_cons (c : Cycle) (cs : List Cycle) (s : State) :
    runCycles (c :: cs) s = match c s with | .more t => runCycles cs (between t) | .done t => t := rfl

@[simp] theorem runCycles_idle (cs : List Cycle) (s : State) :
    runCycles (idle :: cs) s = runCycles cs (between s) := rfl

@[simp] theorem runCycles_going (f : State → State) (cs : List Cycle) (s : State) :
    runCycles (going f :: cs) s = runCycles cs (between (f s)) := rfl

@[simp] theorem runCycles_last (f : State → State) (cs : List Cycle) (s : State) :
    runCycles (last f :: cs) s = f s := rfl

@[simp] theorem runCycles_branch (cc : Cond) (n : Word) (cs : List Cycle) (s : State) :
    runCycles (branch cc n :: cs) s =
      if condHolds cc s.cpu.f then runCycles cs (between s) else s.advance n := by
  by_cases h : condHolds cc s.cpu.f <;> simp [runCycles_cons, branch, h]

/-! ### What no machine cycle can change -/

/-- No cycle of a list changes, in the CPU's part, what `CpuPart` names. -/
def KeepsDevices (cs : List Cycle) : Prop := ∀ c ∈ cs, ∀ s, CpuPart s (c s).state

@[simp] theorem keepsDevices_nil : KeepsDevices [] := by simp [KeepsDevices]

theorem keepsDevices_cons (c : Cycle) (cs : List Cycle) :
    KeepsDevices (c :: cs) ↔ (∀ s, CpuPart s (c s).state) ∧ KeepsDevices cs := by simp [KeepsDevices]

theorem keepsDevices_append (cs ds : List Cycle) : KeepsDevices (cs ++ ds) ↔ KeepsDevices cs ∧ KeepsDevices ds := by
  simp only [KeepsDevices, List.mem_append]
  exact ⟨fun h => ⟨fun c hc => h c (.inl hc), fun c hc => h c (.inr hc)⟩, fun h c hc => hc.elim (h.1 c) (h.2 c)⟩

@[simp] theorem keepsDevices_idle (cs : List Cycle) : KeepsDevices (idle :: cs) ↔ KeepsDevices cs := by
  rw [keepsDevices_cons]
  exact ⟨And.right, fun h => ⟨fun s => CpuPart.ofCpu s _, h⟩⟩

theorem keepsDevices_going {f : State → State} {cs : List Cycle} (h : ∀ s, CpuPart s (f s)) (g : KeepsDevices cs) :
    KeepsDevices (going f :: cs) :=
  (keepsDevices_cons _ _).2 ⟨fun s => (h s).trans (CpuPart.ofCpu _ _), g⟩

theorem keepsDevices_last {f : State → State} (h : ∀ s, CpuPart s (f s)) : KeepsDevices [last f] :=
  (keepsDevices_cons _ _).2 ⟨h, keepsDevices_nil⟩

theorem keepsDevices_branch {cc : Cond} {n : Word} {cs : List Cycle} (g : KeepsDevices cs) :
    KeepsDevices (branch cc n :: cs) :=
  (keepsDevices_cons _ _).2
    ⟨fun s => by unfold branch; split <;> exact CpuPart.ofCpu s _, g⟩

/-- The terminal cycle of an instruction that changes the CPU alone. -/
theorem keepsDevices_lastCpu {f : State → State} (c : State → Cpu) (h : ∀ s, f s = { s with cpu := c s }) :
    KeepsDevices [last f] :=
  keepsDevices_last fun s => by rw [h]; exact CpuPart.ofCpu s _

@[simp] theorem ldRegReg_keeps (dst src : Reg8) : KeepsDevices (ldRegRegCycles dst src) :=
  keepsDevices_lastCpu _ fun _ => rfl
@[simp] theorem ldRegImm_keeps (r : Reg8) (n : Byte) : KeepsDevices (ldRegImmCycles r n) :=
  keepsDevices_lastCpu _ fun _ => rfl
theorem load_keeps (r : Reg8) (a : State → Word) (after : State → State) (n : Word)
    (h : ∀ s, CpuPart s (after s)) : KeepsDevices (loadCycles r a after n) :=
  (keepsDevices_idle _).2 (keepsDevices_last fun s =>
    ((CpuPart.ofCpu s _).trans (h (s.setR8 r (memRead s (a s))))).trans (CpuPart.ofCpu _ _))
theorem store_keeps (a : State → Word) (v : State → Byte) (after : State → State) (n : Word)
    (h : ∀ s, CpuPart s (after s)) : KeepsDevices (storeCycles a v after n) :=
  (keepsDevices_idle _).2 (keepsDevices_last fun s =>
    ((memWrite_cpuPart s (a s) (v s)).trans (h _)).trans (CpuPart.ofCpu _ _))
@[simp] theorem ldRegMem_keeps (r : Reg8) : KeepsDevices (ldRegMemCycles r) := load_keeps _ _ _ _ CpuPart.refl
@[simp] theorem ldMemReg_keeps (r : Reg8) : KeepsDevices (ldMemRegCycles r) := store_keeps _ _ _ _ CpuPart.refl
@[simp] theorem ldMemImm_keeps (n : Byte) : KeepsDevices (ldMemImmCycles n) := store_keeps _ _ _ _ CpuPart.refl
@[simp] theorem ldAPair_keeps (r : Reg16) : KeepsDevices (ldAPairCycles r) := load_keeps _ _ _ _ CpuPart.refl
@[simp] theorem ldPairA_keeps (r : Reg16) : KeepsDevices (ldPairACycles r) := store_keeps _ _ _ _ CpuPart.refl
@[simp] theorem ldAAbs_keeps (n : Word) : KeepsDevices (ldAAbsCycles n) := load_keeps _ _ _ _ CpuPart.refl
@[simp] theorem ldAbsA_keeps (n : Word) : KeepsDevices (ldAbsACycles n) := store_keeps _ _ _ _ CpuPart.refl
@[simp] theorem ldhAC_keeps : KeepsDevices ldhACCycles := load_keeps _ _ _ _ CpuPart.refl
@[simp] theorem ldhCA_keeps : KeepsDevices ldhCACycles := store_keeps _ _ _ _ CpuPart.refl
@[simp] theorem ldhAImm_keeps (n : Byte) : KeepsDevices (ldhAImmCycles n) := load_keeps _ _ _ _ CpuPart.refl
@[simp] theorem ldhImmA_keeps (n : Byte) : KeepsDevices (ldhImmACycles n) := store_keeps _ _ _ _ CpuPart.refl
@[simp] theorem ldAHlStep_keeps (d : Word) : KeepsDevices (ldAHlStepCycles d) :=
  load_keeps _ _ _ _ fun s => CpuPart.ofCpu s _
@[simp] theorem ldHlStepA_keeps (d : Word) : KeepsDevices (ldHlStepACycles d) :=
  store_keeps _ _ _ _ fun s => CpuPart.ofCpu s _

theorem pushThenJump_keeps (v target : State → Word) (after : State → State) (h : ∀ s, CpuPart s (after s)) :
    KeepsDevices (pushThenJump v target after) :=
  keepsDevices_going (fun s => pushByte_cpuPart s _) (keepsDevices_last fun s =>
    ((pushByte_cpuPart s _).trans (CpuPart.ofCpu _ _)).trans (h _))

theorem return_keeps (after : State → State) (h : ∀ s, CpuPart s (after s)) : KeepsDevices (returnCycles after) :=
  keepsDevices_going (fun s => CpuPart.ofCpu s _) (keepsDevices_going (fun s => CpuPart.ofCpu s _)
    (keepsDevices_last fun s => (CpuPart.ofCpu s _).trans (h _)))

@[simp] theorem ldPairImm_keeps (r : Reg16) (n : Word) : KeepsDevices (ldPairImmCycles r n) :=
  keepsDevices_lastCpu _ fun _ => rfl
@[simp] theorem ldAbsSp_keeps (n : Word) : KeepsDevices (ldAbsSpCycles n) :=
  (keepsDevices_idle _).2 (keepsDevices_going (fun s => memWrite_cpuPart s _ _) (keepsDevices_last fun s =>
    (memWrite_cpuPart s _ _).trans (CpuPart.ofCpu _ _)))
@[simp] theorem ldSpHl_keeps : KeepsDevices ldSpHlCycles :=
  (keepsDevices_idle _).2 (keepsDevices_lastCpu _ fun _ => rfl)
@[simp] theorem push_keeps (r : Reg16s) : KeepsDevices (pushCycles r) :=
  (keepsDevices_idle _).2 ((keepsDevices_idle _).2 (pushThenJump_keeps _ _ _ CpuPart.refl))
@[simp] theorem pop_keeps (r : Reg16s) : KeepsDevices (popCycles r) :=
  (keepsDevices_idle _).2 (keepsDevices_going (fun s => CpuPart.ofCpu s _) (keepsDevices_lastCpu _ fun _ => rfl))
@[simp] theorem ldHlSp_keeps (e : Int) : KeepsDevices (ldHlSpCycles e) :=
  (keepsDevices_idle _).2 (keepsDevices_lastCpu _ fun _ => rfl)

@[simp] theorem aluReg_keeps (op : AluOp) (r : Reg8) : KeepsDevices (aluRegCycles op r) :=
  keepsDevices_lastCpu _ fun _ => rfl
@[simp] theorem aluMem_keeps (op : AluOp) : KeepsDevices (aluMemCycles op) :=
  (keepsDevices_idle _).2 (keepsDevices_lastCpu _ fun _ => rfl)
@[simp] theorem aluImm_keeps (op : AluOp) (n : Byte) : KeepsDevices (aluImmCycles op n) :=
  keepsDevices_lastCpu _ fun _ => rfl
@[simp] theorem incReg_keeps (r : Reg8) : KeepsDevices (incRegCycles r) := keepsDevices_lastCpu _ fun _ => rfl
@[simp] theorem decReg_keeps (r : Reg8) : KeepsDevices (decRegCycles r) := keepsDevices_lastCpu _ fun _ => rfl
@[simp] theorem incMem_keeps : KeepsDevices incMemCycles :=
  (keepsDevices_idle _).2 (keepsDevices_going (fun s => CpuPart.ofCpu s _) (keepsDevices_last fun s =>
    (memWrite_cpuPart s _ _).trans (CpuPart.ofCpu _ _)))
@[simp] theorem decMem_keeps : KeepsDevices decMemCycles :=
  (keepsDevices_idle _).2 (keepsDevices_going (fun s => CpuPart.ofCpu s _) (keepsDevices_last fun s =>
    (memWrite_cpuPart s _ _).trans (CpuPart.ofCpu _ _)))
@[simp] theorem daa_keeps : KeepsDevices daaCycles := keepsDevices_lastCpu _ fun _ => rfl
@[simp] theorem cpl_keeps : KeepsDevices cplCycles := keepsDevices_lastCpu _ fun _ => rfl
@[simp] theorem scf_keeps : KeepsDevices scfCycles := keepsDevices_lastCpu _ fun _ => rfl
@[simp] theorem ccf_keeps : KeepsDevices ccfCycles := keepsDevices_lastCpu _ fun _ => rfl

@[simp] theorem addHl_keeps (r : Reg16) : KeepsDevices (addHlCycles r) :=
  (keepsDevices_idle _).2 (keepsDevices_lastCpu _ fun _ => rfl)
@[simp] theorem incPair_keeps (r : Reg16) : KeepsDevices (incPairCycles r) :=
  (keepsDevices_idle _).2 (keepsDevices_lastCpu _ fun _ => rfl)
@[simp] theorem decPair_keeps (r : Reg16) : KeepsDevices (decPairCycles r) :=
  (keepsDevices_idle _).2 (keepsDevices_lastCpu _ fun _ => rfl)
@[simp] theorem addSp_keeps (e : Int) : KeepsDevices (addSpCycles e) :=
  (keepsDevices_idle _).2 ((keepsDevices_idle _).2 (keepsDevices_lastCpu _ fun _ => rfl))

@[simp] theorem accRotate_keeps (op : ShiftOp) : KeepsDevices (accRotateCycles op) := keepsDevices_lastCpu _ fun _ => rfl
@[simp] theorem shiftReg_keeps (op : ShiftOp) (r : Reg8) : KeepsDevices (shiftRegCycles op r) :=
  keepsDevices_lastCpu _ fun _ => rfl
theorem modifyMem_keeps (f : Byte → Flags → Byte) (g : Byte → Flags → Flags) : KeepsDevices (modifyMemCycles f g) :=
  (keepsDevices_idle _).2 (keepsDevices_going (fun s => CpuPart.ofCpu s _) (keepsDevices_last fun s =>
    (memWrite_cpuPart s _ _).trans (CpuPart.ofCpu _ _)))
@[simp] theorem shiftMem_keeps (op : ShiftOp) : KeepsDevices (shiftMemCycles op) := modifyMem_keeps _ _
@[simp] theorem bitReg_keeps (b : Fin 8) (r : Reg8) : KeepsDevices (bitRegCycles b r) :=
  keepsDevices_lastCpu _ fun _ => rfl
@[simp] theorem bitMem_keeps (b : Fin 8) : KeepsDevices (bitMemCycles b) :=
  (keepsDevices_idle _).2 (keepsDevices_lastCpu _ fun _ => rfl)
@[simp] theorem resReg_keeps (b : Fin 8) (r : Reg8) : KeepsDevices (resRegCycles b r) :=
  keepsDevices_lastCpu _ fun _ => rfl
@[simp] theorem resMem_keeps (b : Fin 8) : KeepsDevices (resMemCycles b) := modifyMem_keeps _ _
@[simp] theorem setReg_keeps (b : Fin 8) (r : Reg8) : KeepsDevices (setRegCycles b r) :=
  keepsDevices_lastCpu _ fun _ => rfl
@[simp] theorem setMem_keeps (b : Fin 8) : KeepsDevices (setMemCycles b) := modifyMem_keeps _ _

@[simp] theorem jp_keeps (n : Word) : KeepsDevices (jpCycles n) :=
  (keepsDevices_idle _).2 (keepsDevices_lastCpu _ fun _ => rfl)
@[simp] theorem jpHl_keeps : KeepsDevices jpHlCycles := keepsDevices_lastCpu _ fun _ => rfl
@[simp] theorem jpCond_keeps (cc : Cond) (n : Word) : KeepsDevices (jpCondCycles cc n) :=
  keepsDevices_branch (keepsDevices_lastCpu _ fun _ => rfl)
@[simp] theorem jr_keeps (e : Int) : KeepsDevices (jrCycles e) :=
  (keepsDevices_idle _).2 (keepsDevices_lastCpu _ fun _ => rfl)
@[simp] theorem jrCond_keeps (cc : Cond) (e : Int) : KeepsDevices (jrCondCycles cc e) :=
  keepsDevices_branch (keepsDevices_lastCpu _ fun _ => rfl)
@[simp] theorem call_keeps (n : Word) : KeepsDevices (callCycles n) :=
  (keepsDevices_idle _).2 ((keepsDevices_idle _).2 (pushThenJump_keeps _ _ _ CpuPart.refl))
@[simp] theorem callCond_keeps (cc : Cond) (n : Word) : KeepsDevices (callCondCycles cc n) :=
  keepsDevices_branch ((keepsDevices_idle _).2 (pushThenJump_keeps _ _ _ CpuPart.refl))
@[simp] theorem ret_keeps : KeepsDevices retCycles := (keepsDevices_idle _).2 (return_keeps _ CpuPart.refl)
@[simp] theorem retCond_keeps (cc : Cond) : KeepsDevices (retCondCycles cc) :=
  (keepsDevices_idle _).2 (keepsDevices_branch (return_keeps _ CpuPart.refl))
@[simp] theorem reti_keeps : KeepsDevices retiCycles :=
  (keepsDevices_idle _).2 (return_keeps _ fun s => CpuPart.ofCpu s _)
@[simp] theorem rst_keeps (y : Fin 8) : KeepsDevices (rstCycles y) :=
  (keepsDevices_idle _).2 ((keepsDevices_idle _).2 (pushThenJump_keeps _ _ _ CpuPart.refl))

@[simp] theorem nop_keeps : KeepsDevices nopCycles := keepsDevices_lastCpu _ fun _ => rfl
@[simp] theorem halt_keeps : KeepsDevices haltCycles := keepsDevices_lastCpu _ fun _ => rfl
@[simp] theorem undefined_keeps (op : Byte) : KeepsDevices (undefinedCycles op) := keepsDevices_lastCpu _ fun _ => rfl
@[simp] theorem stop_keeps : KeepsDevices stopCycles :=
  keepsDevices_last fun s => by unfold stop; split <;> exact CpuPart.ofCpu s _
@[simp] theorem di_keeps : KeepsDevices diCycles := keepsDevices_lastCpu _ fun _ => rfl
@[simp] theorem ei_keeps : KeepsDevices eiCycles := keepsDevices_lastCpu _ fun _ => rfl

/-- No machine cycle of any instruction changes, in the CPU's part, what `CpuPart` names. -/
theorem cyclesOf_keeps (i : Instr) : KeepsDevices (cyclesOf i) := by
  cases i <;> simp [cyclesOf]

end Sys2Proof.Machine
end

