-- ==== Sys2Proof/Laws/Control.lean ====
section
/-! SUPPORT. What the machine cycles of an instruction can do to the CPU's control state and to SP, form by form: all
instructions but the few that are about the control state leave it alone (10_state.md R29 to R36, R23). -/

namespace Sys2Proof.Machine

/-- What a plain instruction leaves of the CPU's control state; the two latches it can only clear. -/
def ControlKept (s t : Cpu) : Prop :=
  t.ime = s.ime ∧ t.halted = s.halted ∧ t.fatal = s.fatal ∧ t.ir = s.ir ∧ (s.ei = false → t.ei = false) ∧
    (s.di = false → t.di = false)

theorem ControlKept.refl (c : Cpu) : ControlKept c c := ⟨rfl, rfl, rfl, rfl, id, id⟩

theorem ControlKept.trans {a b c : Cpu} (h : ControlKept a b) (g : ControlKept b c) : ControlKept a c :=
  ⟨g.1.trans h.1, g.2.1.trans h.2.1, g.2.2.1.trans h.2.2.1, g.2.2.2.1.trans h.2.2.2.1,
    fun e => g.2.2.2.2.1 (h.2.2.2.2.1 e), fun e => g.2.2.2.2.2 (h.2.2.2.2.2 e)⟩

/-- A machine cycle keeps the control state; it keeps the stage if the instruction goes on, and leaves a fresh stage if it
retires. -/
def PlainCycle (c : Cycle) : Prop :=
  ∀ s, match c s with
    | .more t => ControlKept s.cpu t.cpu ∧ t.cpu.stage = s.cpu.stage
    | .done t => ControlKept s.cpu t.cpu ∧ t.cpu.stage = 0

/-- Every machine cycle of a list is plain. -/
def Plain (cs : List Cycle) : Prop := ∀ c ∈ cs, PlainCycle c

@[simp] theorem plain_nil : Plain [] := by simp [Plain]

@[simp] theorem plain_cons (c : Cycle) (cs : List Cycle) : Plain (c :: cs) ↔ PlainCycle c ∧ Plain cs := by simp [Plain]

@[simp] theorem plain_append (cs ds : List Cycle) : Plain (cs ++ ds) ↔ Plain cs ∧ Plain ds := by
  simp only [Plain, List.mem_append]
  exact ⟨fun h => ⟨fun c hc => h c (.inl hc), fun c hc => h c (.inr hc)⟩, fun h c hc => hc.elim (h.1 c) (h.2 c)⟩

@[simp] theorem plainCycle_idle : PlainCycle idle := fun s => ⟨ControlKept.refl s.cpu, rfl⟩

theorem plainCycle_going {f : State → State} :
    PlainCycle (going f) ↔ ∀ s, ControlKept s.cpu (f s).cpu ∧ (f s).cpu.stage = s.cpu.stage := Iff.rfl

theorem plainCycle_last {f : State → State} :
    PlainCycle (last f) ↔ ∀ s, ControlKept s.cpu (f s).cpu ∧ (f s).cpu.stage = 0 := Iff.rfl

@[simp] theorem plainCycle_branch (cc : Cond) (n : Word) : PlainCycle (branch cc n) := by
  intro s
  by_cases h : condHolds cc s.cpu.f <;> simp [branch, h, ControlKept]

/-- A run of plain cycles keeps the control state. -/
theorem runCycles_controlKept (cs : List Cycle) (s : State) (h : Plain cs) : ControlKept s.cpu (runCycles cs s).cpu := by
  induction cs generalizing s with
  | nil => exact ControlKept.refl _
  | cons c cs ih =>
    have hc := h c (.head _) s
    have hcs : Plain cs := fun d hd => h d (.tail _ hd)
    rw [runCycles_cons]
    cases e : c s with
    | more t =>
      rw [e] at hc
      have hb : ControlKept t.cpu (between t).cpu := by
        rw [between_cpu]
        exact ⟨rfl, rfl, rfl, rfl, id, id⟩
      exact (hc.1.trans hb).trans (ih (between t) hcs)
    | done t =>
      rw [e] at hc
      exact hc.1

/-! ### The forms -/

theorem plain_load (r : Reg8) (a : State → Word) (after : State → State) (n : Word)
    (h : ∀ s, ControlKept s.cpu (after s).cpu) : Plain (loadCycles r a after n) := by
  simp only [loadCycles, plain_cons, plainCycle_idle, plainCycle_last, plain_nil, true_and, and_true]
  refine fun s => ⟨ControlKept.trans ?_ ((h (s.setR8 r (memRead s (a s)))).trans ?_), rfl⟩ <;> simp [ControlKept]

theorem plain_store (a : State → Word) (v : State → Byte) (after : State → State) (n : Word)
    (h : ∀ s, ControlKept s.cpu (after s).cpu) : Plain (storeCycles a v after n) := by
  simp only [storeCycles, plain_cons, plainCycle_idle, plainCycle_last, plain_nil, true_and, and_true]
  refine fun s => ⟨ControlKept.trans ?_ ((h (memWrite s (a s) (v s))).trans ?_), rfl⟩ <;> simp [ControlKept]

theorem plain_pushThenJump (v target : State → Word) (after : State → State)
    (h : ∀ s, ControlKept s.cpu (after s).cpu ∧ (after s).cpu.stage = s.cpu.stage) :
    Plain (pushThenJump v target after) := by
  simp only [pushThenJump, plain_cons, plainCycle_going, plainCycle_last, plain_nil, and_true]
  refine ⟨fun s => ?_, fun s => ⟨ControlKept.trans ?_ (h _).1, (h _).2.trans rfl⟩⟩ <;> simp [ControlKept]

theorem plain_return (after : State → State)
    (h : ∀ s, ControlKept s.cpu (after s).cpu ∧ (after s).cpu.stage = s.cpu.stage) : Plain (returnCycles after) := by
  simp only [returnCycles, plain_cons, plainCycle_going, plainCycle_last, plain_nil, and_true]
  refine ⟨fun s => ?_, fun s => ?_, fun s => ⟨ControlKept.trans ?_ (h _).1, (h _).2.trans rfl⟩⟩ <;>
    simp [ControlKept, popLow, popHigh]

theorem plain_modifyMem (f : Byte → Flags → Byte) (g : Byte → Flags → Flags) : Plain (modifyMemCycles f g) := by
  simp [modifyMemCycles, plainCycle_going, plainCycle_last, ControlKept]

theorem kept_id (s : State) : ControlKept s.cpu (id s : State).cpu ∧ (id s : State).cpu.stage = s.cpu.stage :=
  ⟨ControlKept.refl _, rfl⟩

@[simp] theorem ldRegReg_plain (dst src : Reg8) : Plain (ldRegRegCycles dst src) := by
  simp [ldRegRegCycles, plainCycle_last, ControlKept]
@[simp] theorem ldRegImm_plain (r : Reg8) (n : Byte) : Plain (ldRegImmCycles r n) := by
  simp [ldRegImmCycles, plainCycle_last, ControlKept]
@[simp] theorem ldRegMem_plain (r : Reg8) : Plain (ldRegMemCycles r) := plain_load _ _ _ _ fun _ => ControlKept.refl _
@[simp] theorem ldMemReg_plain (r : Reg8) : Plain (ldMemRegCycles r) := plain_store _ _ _ _ fun _ => ControlKept.refl _
@[simp] theorem ldMemImm_plain (n : Byte) : Plain (ldMemImmCycles n) := plain_store _ _ _ _ fun _ => ControlKept.refl _
@[simp] theorem ldAPair_plain (r : Reg16) : Plain (ldAPairCycles r) := plain_load _ _ _ _ fun _ => ControlKept.refl _
@[simp] theorem ldPairA_plain (r : Reg16) : Plain (ldPairACycles r) := plain_store _ _ _ _ fun _ => ControlKept.refl _
@[simp] theorem ldAAbs_plain (n : Word) : Plain (ldAAbsCycles n) := plain_load _ _ _ _ fun _ => ControlKept.refl _
@[simp] theorem ldAbsA_plain (n : Word) : Plain (ldAbsACycles n) := plain_store _ _ _ _ fun _ => ControlKept.refl _
@[simp] theorem ldhAC_plain : Plain ldhACCycles := plain_load _ _ _ _ fun _ => ControlKept.refl _
@[simp] theorem ldhCA_plain : Plain ldhCACycles := plain_store _ _ _ _ fun _ => ControlKept.refl _
@[simp] theorem ldhAImm_plain (n : Byte) : Plain (ldhAImmCycles n) := plain_load _ _ _ _ fun _ => ControlKept.refl _
@[simp] theorem ldhImmA_plain (n : Byte) : Plain (ldhImmACycles n) := plain_store _ _ _ _ fun _ => ControlKept.refl _
@[simp] theorem ldAHlStep_plain (d : Word) : Plain (ldAHlStepCycles d) :=
  plain_load _ _ _ _ fun s => by simp [stepHl, ControlKept]
@[simp] theorem ldHlStepA_plain (d : Word) : Plain (ldHlStepACycles d) :=
  plain_store _ _ _ _ fun s => by simp [stepHl, ControlKept]
@[simp] theorem ldPairImm_plain (r : Reg16) (n : Word) : Plain (ldPairImmCycles r n) := by
  simp [ldPairImmCycles, plainCycle_last, ControlKept]
@[simp] theorem ldAbsSp_plain (n : Word) : Plain (ldAbsSpCycles n) := by
  simp [ldAbsSpCycles, plainCycle_going, plainCycle_last, ControlKept]
@[simp] theorem ldSpHl_plain : Plain ldSpHlCycles := by simp [ldSpHlCycles, plainCycle_last, ControlKept]
@[simp] theorem push_plain (r : Reg16s) : Plain (pushCycles r) := by
  simp [pushCycles, plain_pushThenJump _ _ _ kept_id]
@[simp] theorem pop_plain (r : Reg16s) : Plain (popCycles r) := by
  simp [popCycles, plainCycle_going, plainCycle_last, ControlKept, popLow, popHigh]
@[simp] theorem ldHlSp_plain (e : Int) : Plain (ldHlSpCycles e) := by simp [ldHlSpCycles, plainCycle_last, ControlKept]
@[simp] theorem aluReg_plain (op : AluOp) (r : Reg8) : Plain (aluRegCycles op r) := by
  simp [aluRegCycles, applyAlu, plainCycle_last, ControlKept]
@[simp] theorem aluMem_plain (op : AluOp) : Plain (aluMemCycles op) := by
  simp [aluMemCycles, applyAlu, plainCycle_last, ControlKept]
@[simp] theorem aluImm_plain (op : AluOp) (n : Byte) : Plain (aluImmCycles op n) := by
  simp [aluImmCycles, applyAlu, plainCycle_last, ControlKept]
@[simp] theorem incReg_plain (r : Reg8) : Plain (incRegCycles r) := by simp [incRegCycles, plainCycle_last, ControlKept]
@[simp] theorem decReg_plain (r : Reg8) : Plain (decRegCycles r) := by simp [decRegCycles, plainCycle_last, ControlKept]
@[simp] theorem incMem_plain : Plain incMemCycles := by
  simp [incMemCycles, plainCycle_going, plainCycle_last, ControlKept]
@[simp] theorem decMem_plain : Plain decMemCycles := by
  simp [decMemCycles, plainCycle_going, plainCycle_last, ControlKept]
@[simp] theorem daa_plain : Plain daaCycles := by simp [daaCycles, plainCycle_last, ControlKept]
@[simp] theorem cpl_plain : Plain cplCycles := by simp [cplCycles, plainCycle_last, ControlKept]
@[simp] theorem scf_plain : Plain scfCycles := by simp [scfCycles, plainCycle_last, ControlKept]
@[simp] theorem ccf_plain : Plain ccfCycles := by simp [ccfCycles, plainCycle_last, ControlKept]
@[simp] theorem addHl_plain (r : Reg16) : Plain (addHlCycles r) := by simp [addHlCycles, plainCycle_last, ControlKept]
@[simp] theorem incPair_plain (r : Reg16) : Plain (incPairCycles r) := by
  simp [incPairCycles, plainCycle_last, ControlKept]
@[simp] theorem decPair_plain (r : Reg16) : Plain (decPairCycles r) := by
  simp [decPairCycles, plainCycle_last, ControlKept]
@[simp] theorem addSp_plain (e : Int) : Plain (addSpCycles e) := by simp [addSpCycles, plainCycle_last, ControlKept]
@[simp] theorem accRotate_plain (op : ShiftOp) : Plain (accRotateCycles op) := by
  simp [accRotateCycles, plainCycle_last, ControlKept]
@[simp] theorem shiftReg_plain (op : ShiftOp) (r : Reg8) : Plain (shiftRegCycles op r) := by
  simp [shiftRegCycles, plainCycle_last, ControlKept]
@[simp] theorem shiftMem_plain (op : ShiftOp) : Plain (shiftMemCycles op) := plain_modifyMem _ _
@[simp] theorem bitReg_plain (b : Fin 8) (r : Reg8) : Plain (bitRegCycles b r) := by
  simp [bitRegCycles, plainCycle_last, ControlKept]
@[simp] theorem bitMem_plain (b : Fin 8) : Plain (bitMemCycles b) := by
  simp [bitMemCycles, plainCycle_last, ControlKept]
@[simp] theorem resReg_plain (b : Fin 8) (r : Reg8) : Plain (resRegCycles b r) := by
  simp [resRegCycles, plainCycle_last, ControlKept]
@[simp] theorem resMem_plain (b : Fin 8) : Plain (resMemCycles b) := plain_modifyMem _ _
@[simp] theorem setReg_plain (b : Fin 8) (r : Reg8) : Plain (setRegCycles b r) := by
  simp [setRegCycles, plainCycle_last, ControlKept]
@[simp] theorem setMem_plain (b : Fin 8) : Plain (setMemCycles b) := plain_modifyMem _ _
@[simp] theorem jp_plain (n : Word) : Plain (jpCycles n) := by simp [jpCycles, plainCycle_last, ControlKept]
@[simp] theorem jpHl_plain : Plain jpHlCycles := by simp [jpHlCycles, plainCycle_last, ControlKept]
@[simp] theorem jpCond_plain (cc : Cond) (n : Word) : Plain (jpCondCycles cc n) := by
  simp [jpCondCycles, plainCycle_last, ControlKept]
@[simp] theorem jr_plain (e : Int) : Plain (jrCycles e) := by simp [jrCycles, plainCycle_last, ControlKept]
@[simp] theorem jrCond_plain (cc : Cond) (e : Int) : Plain (jrCondCycles cc e) := by
  simp [jrCondCycles, plainCycle_last, ControlKept]
@[simp] theorem call_plain (n : Word) : Plain (callCycles n) := by
  simp [callCycles, callTail, plain_pushThenJump _ _ _ kept_id]
@[simp] theorem callCond_plain (cc : Cond) (n : Word) : Plain (callCondCycles cc n) := by
  simp [callCondCycles, callTail, plain_pushThenJump _ _ _ kept_id]
@[simp] theorem ret_plain : Plain retCycles := by simp [retCycles, plain_return _ kept_id]
@[simp] theorem retCond_plain (cc : Cond) : Plain (retCondCycles cc) := by simp [retCondCycles, plain_return _ kept_id]
@[simp] theorem rst_plain (y : Fin 8) : Plain (rstCycles y) := by simp [rstCycles, plain_pushThenJump _ _ _ kept_id]
@[simp] theorem nop_plain : Plain nopCycles := by simp [nopCycles, plainCycle_last, ControlKept]

/-- The instructions that are about the control state: DI, EI, RETI, HALT, STOP and the undefined bytes. -/
def Instr.aboutControl : Instr → Bool
  | .di | .ei | .reti | .halt | .stop => true
  | .illegal_d3 | .illegal_db | .illegal_dd | .illegal_e3 | .illegal_e4 | .illegal_eb | .illegal_ec | .illegal_ed => true
  | .illegal_f4 | .illegal_fc | .illegal_fd => true
  | _ => false

/-- Every other instruction is plain. -/
theorem cyclesOf_plain (i : Instr) (h : Instr.aboutControl i = false) : Plain (cyclesOf i) := by
  cases i <;> first | (simp [cyclesOf]; done) | cases h

/-! ### SP (10_state.md R23) -/

/-- No machine cycle of a list writes SP. -/
def KeepsSp (cs : List Cycle) : Prop := ∀ c ∈ cs, ∀ s, (c s).state.cpu.sp = s.cpu.sp

@[simp] theorem keepsSp_nil : KeepsSp [] := by simp [KeepsSp]

@[simp] theorem keepsSp_idle (cs : List Cycle) : KeepsSp (idle :: cs) ↔ KeepsSp cs := by
  simp [KeepsSp, idle, Phase.state]

@[simp] theorem keepsSp_going (f : State → State) (cs : List Cycle) :
    KeepsSp (going f :: cs) ↔ (∀ s, (f s).cpu.sp = s.cpu.sp) ∧ KeepsSp cs := by
  simp [KeepsSp, going, Phase.state]

@[simp] theorem keepsSp_last (f : State → State) (cs : List Cycle) :
    KeepsSp (last f :: cs) ↔ (∀ s, (f s).cpu.sp = s.cpu.sp) ∧ KeepsSp cs := by
  simp [KeepsSp, last, Phase.state]

@[simp] theorem keepsSp_branch (cc : Cond) (n : Word) (cs : List Cycle) : KeepsSp (branch cc n :: cs) ↔ KeepsSp cs := by
  have h : ∀ s, (branch cc n s).state.cpu.sp = s.cpu.sp := fun s => by
    by_cases h : condHolds cc s.cpu.f <;> simp [branch, h, Phase.state]
  simp [KeepsSp, h]

/-- A run of cycles that keep SP keeps SP. -/
theorem runCycles_sp (cs : List Cycle) (s : State) (h : KeepsSp cs) : (runCycles cs s).cpu.sp = s.cpu.sp := by
  induction cs generalizing s with
  | nil => rfl
  | cons c cs ih =>
    have hc := h c (.head _) s
    have hcs : KeepsSp cs := fun d hd => h d (.tail _ hd)
    rw [runCycles_cons]
    cases e : c s with
    | more t =>
      rw [e] at hc
      exact (ih (between t) hcs).trans (by rw [between_cpu]; exact hc)
    | done t =>
      rw [e] at hc
      exact hc

@[simp] theorem ldRegReg_sp (dst src : Reg8) : KeepsSp (ldRegRegCycles dst src) := by simp [ldRegRegCycles]
@[simp] theorem ldRegImm_sp (r : Reg8) (n : Byte) : KeepsSp (ldRegImmCycles r n) := by simp [ldRegImmCycles]
@[simp] theorem ldRegMem_sp (r : Reg8) : KeepsSp (ldRegMemCycles r) := by simp [ldRegMemCycles, loadCycles]
@[simp] theorem ldMemReg_sp (r : Reg8) : KeepsSp (ldMemRegCycles r) := by simp [ldMemRegCycles, storeCycles]
@[simp] theorem ldMemImm_sp (n : Byte) : KeepsSp (ldMemImmCycles n) := by simp [ldMemImmCycles, storeCycles]
@[simp] theorem ldAPair_sp (r : Reg16) : KeepsSp (ldAPairCycles r) := by simp [ldAPairCycles, loadCycles]
@[simp] theorem ldPairA_sp (r : Reg16) : KeepsSp (ldPairACycles r) := by simp [ldPairACycles, storeCycles]
@[simp] theorem ldAAbs_sp (n : Word) : KeepsSp (ldAAbsCycles n) := by simp [ldAAbsCycles, loadCycles]
@[simp] theorem ldAbsA_sp (n : Word) : KeepsSp (ldAbsACycles n) := by simp [ldAbsACycles, storeCycles]
@[simp] theorem ldhAC_sp : KeepsSp (ldhACCycles) := by simp [ldhACCycles, loadCycles]
@[simp] theorem ldhCA_sp : KeepsSp (ldhCACycles) := by simp [ldhCACycles, storeCycles]
@[simp] theorem ldhAImm_sp (n : Byte) : KeepsSp (ldhAImmCycles n) := by simp [ldhAImmCycles, loadCycles]
@[simp] theorem ldhImmA_sp (n : Byte) : KeepsSp (ldhImmACycles n) := by simp [ldhImmACycles, storeCycles]
@[simp] theorem ldAHlStep_sp (d : Word) : KeepsSp (ldAHlStepCycles d) := by
  simp [ldAHlStepCycles, loadCycles, stepHl, State.setR16, Cpu.setR16]
@[simp] theorem ldHlStepA_sp (d : Word) : KeepsSp (ldHlStepACycles d) := by
  simp [ldHlStepACycles, storeCycles, stepHl, State.setR16, Cpu.setR16]
@[simp] theorem ldPairImm_bc_sp (n : Word) : KeepsSp (ldPairImmCycles .bc n) := by
  simp [ldPairImmCycles, State.setR16, Cpu.setR16]
@[simp] theorem ldPairImm_de_sp (n : Word) : KeepsSp (ldPairImmCycles .de n) := by
  simp [ldPairImmCycles, State.setR16, Cpu.setR16]
@[simp] theorem ldPairImm_hl_sp (n : Word) : KeepsSp (ldPairImmCycles .hl n) := by
  simp [ldPairImmCycles, State.setR16, Cpu.setR16]
@[simp] theorem ldAbsSp_sp (n : Word) : KeepsSp (ldAbsSpCycles n) := by simp [ldAbsSpCycles]
@[simp] theorem ldHlSp_sp (e : Int) : KeepsSp (ldHlSpCycles e) := by simp [ldHlSpCycles, State.setR16, Cpu.setR16]
@[simp] theorem aluReg_sp (op : AluOp) (r : Reg8) : KeepsSp (aluRegCycles op r) := by simp [aluRegCycles, applyAlu]
@[simp] theorem aluMem_sp (op : AluOp) : KeepsSp (aluMemCycles op) := by simp [aluMemCycles, applyAlu]
@[simp] theorem aluImm_sp (op : AluOp) (n : Byte) : KeepsSp (aluImmCycles op n) := by simp [aluImmCycles, applyAlu]
@[simp] theorem incReg_sp (r : Reg8) : KeepsSp (incRegCycles r) := by simp [incRegCycles]
@[simp] theorem decReg_sp (r : Reg8) : KeepsSp (decRegCycles r) := by simp [decRegCycles]
@[simp] theorem incMem_sp : KeepsSp (incMemCycles) := by simp [incMemCycles]
@[simp] theorem decMem_sp : KeepsSp (decMemCycles) := by simp [decMemCycles]
@[simp] theorem daa_sp : KeepsSp (daaCycles) := by simp [daaCycles]
@[simp] theorem cpl_sp : KeepsSp (cplCycles) := by simp [cplCycles]
@[simp] theorem scf_sp : KeepsSp (scfCycles) := by simp [scfCycles]
@[simp] theorem ccf_sp : KeepsSp (ccfCycles) := by simp [ccfCycles]
@[simp] theorem addHl_sp (r : Reg16) : KeepsSp (addHlCycles r) := by simp [addHlCycles, State.setR16, Cpu.setR16]
@[simp] theorem incPair_bc_sp : KeepsSp (incPairCycles .bc) := by simp [incPairCycles, State.setR16, Cpu.setR16]
@[simp] theorem incPair_de_sp : KeepsSp (incPairCycles .de) := by simp [incPairCycles, State.setR16, Cpu.setR16]
@[simp] theorem incPair_hl_sp : KeepsSp (incPairCycles .hl) := by simp [incPairCycles, State.setR16, Cpu.setR16]
@[simp] theorem decPair_bc_sp : KeepsSp (decPairCycles .bc) := by simp [decPairCycles, State.setR16, Cpu.setR16]
@[simp] theorem decPair_de_sp : KeepsSp (decPairCycles .de) := by simp [decPairCycles, State.setR16, Cpu.setR16]
@[simp] theorem decPair_hl_sp : KeepsSp (decPairCycles .hl) := by simp [decPairCycles, State.setR16, Cpu.setR16]
@[simp] theorem accRotate_sp (op : ShiftOp) : KeepsSp (accRotateCycles op) := by simp [accRotateCycles]
@[simp] theorem shiftReg_sp (op : ShiftOp) (r : Reg8) : KeepsSp (shiftRegCycles op r) := by simp [shiftRegCycles]
@[simp] theorem shiftMem_sp (op : ShiftOp) : KeepsSp (shiftMemCycles op) := by simp [shiftMemCycles, modifyMemCycles]
@[simp] theorem bitReg_sp (b : Fin 8) (r : Reg8) : KeepsSp (bitRegCycles b r) := by simp [bitRegCycles]
@[simp] theorem bitMem_sp (b : Fin 8) : KeepsSp (bitMemCycles b) := by simp [bitMemCycles]
@[simp] theorem resReg_sp (b : Fin 8) (r : Reg8) : KeepsSp (resRegCycles b r) := by simp [resRegCycles]
@[simp] theorem resMem_sp (b : Fin 8) : KeepsSp (resMemCycles b) := by simp [resMemCycles, modifyMemCycles]
@[simp] theorem setReg_sp (b : Fin 8) (r : Reg8) : KeepsSp (setRegCycles b r) := by simp [setRegCycles]
@[simp] theorem setMem_sp (b : Fin 8) : KeepsSp (setMemCycles b) := by simp [setMemCycles, modifyMemCycles]
@[simp] theorem jp_sp (n : Word) : KeepsSp (jpCycles n) := by simp [jpCycles]
@[simp] theorem jpHl_sp : KeepsSp (jpHlCycles) := by simp [jpHlCycles]
@[simp] theorem jpCond_sp (cc : Cond) (n : Word) : KeepsSp (jpCondCycles cc n) := by simp [jpCondCycles]
@[simp] theorem jr_sp (e : Int) : KeepsSp (jrCycles e) := by simp [jrCycles]
@[simp] theorem jrCond_sp (cc : Cond) (e : Int) : KeepsSp (jrCondCycles cc e) := by simp [jrCondCycles]
@[simp] theorem nop_sp : KeepsSp (nopCycles) := by simp [nopCycles]
@[simp] theorem halt_sp : KeepsSp (haltCycles) := by simp [haltCycles, halt]
@[simp] theorem di_sp : KeepsSp (diCycles) := by simp [diCycles, disableInterrupts]
@[simp] theorem ei_sp : KeepsSp (eiCycles) := by simp [eiCycles, armInterrupts]
@[simp] theorem undefined_sp (op : Byte) : KeepsSp (undefinedCycles op) := by simp [undefinedCycles, raiseUndefined]
@[simp] theorem stop_sp : KeepsSp stopCycles := by
  have h : ∀ s, (stop s).cpu.sp = s.cpu.sp := fun s => by
    unfold stop
    cases s.params.stopMode <;> rfl
  simp [stopCycles, h]

end Sys2Proof.Machine
end

