-- ==== Sys2Proof/Laws/Run.lean ====
section
/-! SUPPORT. The runs the forms are made of, each said once: a push of a word, a pop of a word, a read, modify and write of
the byte at HL. The pass-through drops out of every one of them. -/

namespace Sys2Proof.Machine

theorem sub_one_one (w : Word) : w - 1#16 - 1#16 = w - 2#16 := by bv_omega

theorem add_one_one (w : Word) : w + 1#16 + 1#16 = w + 2#16 := by bv_omega

theorem pushByte_eq (s : State) (v : Byte) :
    pushByte s v = memWrite (s.setSp (s.cpu.sp - 1)) (s.cpu.sp - 1) v := rfl

/-- The two writes of a pushed word, high byte first, the second one machine cycle after the first. -/
def pushWord (s : State) (v : Word) : State := pushByte (between (pushByte s (hiByte v))) (loByte v)

/-- Both writes by address: SP-1 and SP-2, for the SP before the push. -/
theorem pushWord_eq (s : State) (v : Word) :
    pushWord s v =
      memWrite ((between (memWrite (s.setSp (s.cpu.sp - 1)) (s.cpu.sp - 1) (hiByte v))).setSp (s.cpu.sp - 2))
        (s.cpu.sp - 2) (loByte v) := by
  simp only [pushWord, pushByte_eq s, pushByte_eq (between _), between_cpu, memWrite_cpu, State.setSp_cpu_sp,
    BitVec.ofNat_eq_ofNat, sub_one_one]

@[simp] theorem pushWord_cpu (s : State) (v : Word) :
    (pushWord s v).cpu = { s.cpu with sp := s.cpu.sp - 2, stage := s.cpu.stage + 1 } := by
  rw [pushWord_eq, memWrite_cpu, State.setSp, between_cpu, memWrite_cpu]
  rfl

/-- The push and the jump of a call: the word and the target are what they are before the push. -/
theorem runCycles_pushThenJump {s : State} {v target : State → Word} {after : State → State} {w : Word}
    (before : v s = w) (between_pushes : v (between (pushByte s (hiByte w))) = w) :
    runCycles (pushThenJump v target after) s =
      after ((pushWord s w).retire (target (between (pushByte s (hiByte w))))) := by
  unfold pushThenJump
  simp only [runCycles_going, runCycles_last, before, between_pushes, pushWord]

/-- A state one machine cycle after a change of the CPU. -/
theorem between_popLow (s : State) :
    between (popLow s) =
      (between s).withCpu
        { s.cpu with d8 := memRead s s.cpu.sp, sp := s.cpu.sp + 1, stage := s.cpu.stage + 1 } :=
  between_withCpu s { s.cpu with d8 := memRead s s.cpu.sp, sp := s.cpu.sp + 1 } rfl

/-- The two reads of a popped word: the low byte at SP, the high byte one machine cycle later at SP+1. -/
theorem popHigh_between_popLow (s : State) {lo hi : Byte} (low : memRead s s.cpu.sp = lo)
    (high : memRead (between s) (s.cpu.sp + 1) = hi) :
    popHigh (between (popLow s)) =
      (between s).withCpu
        { s.cpu with
          d8 := lo, d16 := joinBytes hi lo, sp := s.cpu.sp + 2, stage := s.cpu.stage + 1 } := by
  have e : s.cpu.sp + 2 = s.cpu.sp + 1 + 1 := (add_one_one _).symm
  rw [between_popLow, ← low, ← high, e]
  rfl

/-- A byte written one machine cycle after a change of the pass-through alone, and then the end of the instruction: the
pass-through is gone. -/
theorem advance_memWrite_between (s : State) (c : Cpu) (f : Flags) (a : Word) (v : Byte) (n : Word)
    (hc : { c with d8 := s.cpu.d8, d16 := s.cpu.d16, pf := s.cpu.pf } = s.cpu) :
    ((memWrite (between (s.withCpu c)) a v).setFlags f).advance n =
      ((memWrite (between s) a v).setFlags f).advance n := by
  have hf : c.fatal = s.cpu.fatal := by rw [← hc]
  rw [between_withCpu s c hf, memWrite_withCpu]
  have e : (memWrite (between s) a v).cpu = { s.cpu with stage := s.cpu.stage + 1 } := by
    rw [memWrite_cpu, between_cpu]
  unfold State.advance State.retire State.setFlags
  rw [e, ← hc]
  rfl

/-- The read, modify and write of the byte at HL: a cycle that computes a byte and flags into the pass-through, and the
terminal cycle that writes them one machine cycle later. -/
theorem runCycles_modify {s : State} {g : State → State} {v : State → Byte} {f : State → Flags} {n : Word} {w : Byte}
    {k : Flags} (c : Cpu) (hg : g s = s.withCpu c)
    (hc : { c with d8 := s.cpu.d8, d16 := s.cpu.d16, pf := s.cpu.pf } = s.cpu)
    (hv : v (between (s.withCpu c)) = w) (hf : f (between (s.withCpu c)) = k) :
    runCycles [going g, last fun t => ((memWrite t t.hl (v t)).setFlags (f t)).advance n] s =
      ((memWrite (between s) s.hl w).setFlags k).advance n := by
  have hl : (between (s.withCpu c)).hl = s.hl := by
    rw [between_hl, State.hl, State.hl, State.withCpu_cpu, ← hc]
    rfl
  simp only [runCycles_going, runCycles_last, hg, hv, hf, hl]
  exact advance_memWrite_between s c k s.hl w n hc

@[simp] theorem between_cpu_f (s : State) : (between s).cpu.f = s.cpu.f := by rw [between_cpu]
@[simp] theorem between_cpu_a (s : State) : (between s).cpu.a = s.cpu.a := by rw [between_cpu]
@[simp] theorem between_cpu_sp (s : State) : (between s).cpu.sp = s.cpu.sp := by rw [between_cpu]
@[simp] theorem between_cpu_pc (s : State) : (between s).cpu.pc = s.cpu.pc := by rw [between_cpu]

theorem setD8_setPf (s : State) (v : Byte) (f : Flags) :
    (s.setD8 v).setPf f = s.withCpu { s.cpu with d8 := v, pf := f } := rfl

theorem setD16_setPf (s : State) (v : Word) (f : Flags) :
    (s.setD16 v).setPf f = s.withCpu { s.cpu with d16 := v, pf := f } := rfl

/-- `INC (HL)`, its three cycles. -/
theorem runCycles_incMem (s : State) :
    runCycles incMemCycles s =
      ((memWrite (between (between s)) s.hl (memRead (between s) s.hl + 1)).setFlags
        (incFlags (memRead (between s) s.hl) s.cpu.f)).advance 1 := by
  rw [incMemCycles, runCycles_idle]
  refine (runCycles_modify _ (setD8_setPf _ _ _) ?_ (w := memRead (between s) s.hl + 1)
    (k := incFlags (memRead (between s) s.hl) s.cpu.f) ?_ ?_).trans ?_
  · rfl
  · rw [between_cpu, between_hl]; rfl
  · rw [between_cpu, State.withCpu_cpu, between_hl, between_cpu_f]
  · rw [between_hl]

/-- `DEC (HL)`, its three cycles. -/
theorem runCycles_decMem (s : State) :
    runCycles decMemCycles s =
      ((memWrite (between (between s)) s.hl (memRead (between s) s.hl - 1)).setFlags
        (decFlags (memRead (between s) s.hl) s.cpu.f)).advance 1 := by
  rw [decMemCycles, runCycles_idle]
  refine (runCycles_modify _ (setD8_setPf _ _ _) ?_ (w := memRead (between s) s.hl - 1)
    (k := decFlags (memRead (between s) s.hl) s.cpu.f) ?_ ?_).trans ?_
  · rfl
  · rw [between_cpu, between_hl]; rfl
  · rw [between_cpu, State.withCpu_cpu, between_hl, between_cpu_f]
  · rw [between_hl]

@[simp] theorem loByte_zext16 (v : Byte) : loByte (zext16 v) = v := by
  apply BitVec.eq_of_toNat_eq
  rw [loByte_toNat, zext16, BitVec.toNat_setWidth]
  have := v.isLt
  omega

/-- A prefixed operation on the byte at HL that writes it back, its three cycles after the sub-opcode is read. -/
theorem runCycles_modifyMem (result : Byte → Flags → Byte) (flags : Byte → Flags → Flags) (s : State) :
    runCycles (modifyMemCycles result flags) s =
      ((memWrite (between (between s)) s.hl (result (memRead (between s) s.hl) s.cpu.f)).setFlags
        (flags (memRead (between s) s.hl) s.cpu.f)).advance 2 := by
  rw [modifyMemCycles, runCycles_idle]
  refine (runCycles_modify _ (setD16_setPf _ _ _) ?_ (w := result (memRead (between s) s.hl) s.cpu.f)
    (k := flags (memRead (between s) s.hl) s.cpu.f) ?_ ?_).trans ?_
  · rfl
  · rw [between_cpu, State.withCpu_cpu, between_hl, between_cpu_f]; exact loByte_zext16 _
  · rw [between_cpu, State.withCpu_cpu, between_hl, between_cpu_f]
  · rw [between_hl]

end Sys2Proof.Machine
end

