-- ==== Sys2Proof/Laws/Fetch.lean ====
section
/-! SUPPORT. The instruction boundary, the fetch and the step, each said once: what the boundary changes, which
instruction the fetched bytes are, and that a step is a number of single machine cycles. -/

namespace Sys2Proof.Machine

/-! ### The boundary -/

/-- A boundary that fetches has changed only IME, `halted`, PC and the latches. -/
theorem boundary_fetch {s s' : State} (h : boundary s = .fetch s') :
    s' = applyDi (applyEi (wakeIfHalted s)) ∧ (wakeIfHalted s).servedSource = none ∧
      (s.cpu.halted && s.pending == 0) = false := by
  unfold boundary at h
  split at h
  · cases h
  · rename_i awake
    split at h
    · cases h
    · rename_i none_served
      injection h with h
      exact ⟨h.symm, none_served, by simpa using awake⟩

theorem boundary_dispatch {s s' : State} {k : Source} (h : boundary s = .dispatch k s') :
    s' = wakeIfHalted s ∧ (wakeIfHalted s).servedSource = some k := by
  unfold boundary at h
  split at h
  · cases h
  · split at h
    · rename_i served
      injection h with h1 h2
      subst h1
      exact ⟨h2.symm, served⟩
    · cases h

@[simp] theorem wakeIfHalted_fatal (s : State) : (wakeIfHalted s).cpu.fatal = s.cpu.fatal := by
  unfold wakeIfHalted wake
  split <;> rfl

@[simp] theorem wakeIfHalted_stage (s : State) : (wakeIfHalted s).cpu.stage = s.cpu.stage := by
  unfold wakeIfHalted wake
  split <;> rfl

@[simp] theorem applyEi_fatal (s : State) : (applyEi s).cpu.fatal = s.cpu.fatal := by
  unfold applyEi
  split <;> rfl

@[simp] theorem applyEi_stage (s : State) : (applyEi s).cpu.stage = s.cpu.stage := by
  unfold applyEi
  split <;> rfl

@[simp] theorem applyDi_fatal (s : State) : (applyDi s).cpu.fatal = s.cpu.fatal := by
  unfold applyDi
  split <;> rfl

@[simp] theorem applyDi_stage (s : State) : (applyDi s).cpu.stage = s.cpu.stage := by
  unfold applyDi
  split <;> rfl

theorem boundary_fetch_fatal {s s' : State} (h : boundary s = .fetch s') : s'.cpu.fatal = s.cpu.fatal := by
  simp [(boundary_fetch h).1]

theorem boundary_fetch_stage {s s' : State} (h : boundary s = .fetch s') : s'.cpu.stage = s.cpu.stage := by
  simp [(boundary_fetch h).1]

/-! ### The fetched bytes are an instruction -/

/-- What decodes from three bytes on is what the opcode byte, `d8` and `d16` hold. -/
theorem decode_instrOf (op b1 b2 : Byte) (rest : List Byte) :
    ∃ rest', decode (op :: b1 :: b2 :: rest) = .ok (instrOf op b1 (joinBytes b2 b1), rest') := by
  simp only [decode, instrOf]
  cases opcodeRowOf op <;> exact ⟨_, rfl⟩

/-- Where the opcode has no 16-bit operand, `d16` is not looked at; where it has no operand, `d8` is not either. -/
theorem instrOf_reads (op d8 e8 : Byte) (d16 e16 : Word) (h8 : operandReads op = 1 → d8 = e8)
    (h16 : operandReads op = 2 → d16 = e16) : instrOf op d8 d16 = instrOf op e8 e16 := by
  unfold operandReads at h8 h16
  unfold instrOf
  cases h : opcodeRowOf op <;> rw [h] at h8 h16 <;> first | rfl | (rw [h8 rfl]) | (rw [h16 rfl])

/-- The step at a boundary that fetches: the latched instruction's meaning, then the end of its last machine cycle. -/
theorem step_of_fetch {s s' : State} (running : s.cpu.fatal = none) (stage : s.cpu.stage = 0)
    (h : boundary s = .fetch s') : step s = finish (exec (fetched s').latched (fetched s')) := by
  simp [step, running, stage, h]

theorem step_of_dispatch {s s' : State} {k : Source} (running : s.cpu.fatal = none) (stage : s.cpu.stage = 0)
    (h : boundary s = .dispatch k s') : step s = dispatchStep k s' := by
  simp [step, running, stage, h]

theorem step_of_asleep {s : State} (running : s.cpu.fatal = none) (stage : s.cpu.stage = 0)
    (h : boundary s = .asleep) : step s = .next (endCycle s) := by
  simp [step, running, stage, h]

theorem step_of_fatal {s : State} (h : s.cpu.fatal.isSome) : step s = .next s := by simp [step, h]

/-- The instruction the fetch latches, by the three bytes the fetch cycles would read. -/
theorem fetched_latched (s : State) :
    (fetched s).latched =
      instrOf (memRead s s.cpu.pc) (memRead (between (fetchOpcode s)) (s.cpu.pc + 1))
        (joinBytes (memRead (between (readOperand1 (between (fetchOpcode s)))) (s.cpu.pc + 2))
          (memRead (between (fetchOpcode s)) (s.cpu.pc + 1))) := by
  generalize hop : memRead s s.cpu.pc = op
  unfold fetched
  rw [hop]
  have three : operandReads op = 0 ∨ operandReads op = 1 ∨ operandReads op = 2 := by
    unfold operandReads
    cases opcodeRowOf op <;> simp
  have ir : (fetchOpcode s).cpu.ir = .opcode op := by rw [← hop]; rfl
  have pc : (fetchOpcode s).cpu.pc = s.cpu.pc := rfl
  rcases three with h | h | h <;> rw [h]
  · rw [readOperands, State.latched, ir]
    exact instrOf_reads _ _ _ _ _ (fun e => absurd (h.symm.trans e) (by decide)) (fun e => absurd (h.symm.trans e) (by decide))
  · rw [readOperands, State.latched]
    have e8 : (readOperand1 (between (fetchOpcode s))).cpu.d8 = memRead (between (fetchOpcode s)) (s.cpu.pc + 1) := by
      simp [readOperand1, State.setD8, pc]
    have e0 : (readOperand1 (between (fetchOpcode s))).cpu.ir = .opcode op := by
      simp [readOperand1, State.setD8, ir]
    rw [e0, e8]
    exact instrOf_reads _ _ _ _ _ (fun _ => rfl) (fun e => absurd (h.symm.trans e) (by decide))
  · rw [readOperands, State.latched]
    have e0 : (readOperand2 (between (readOperand1 (between (fetchOpcode s))))).cpu.ir = .opcode op := by
      simp [readOperand2, readOperand1, State.setD8, State.setD16, ir]
    have e16 : (readOperand2 (between (readOperand1 (between (fetchOpcode s))))).cpu.d16 =
        joinBytes (memRead (between (readOperand1 (between (fetchOpcode s)))) (s.cpu.pc + 2))
          (memRead (between (fetchOpcode s)) (s.cpu.pc + 1)) := by
      simp [readOperand2, readOperand1, State.setD8, State.setD16, pc]
    rw [e0, e16]
    exact instrOf_reads _ _ _ _ _ (fun e => absurd (h.symm.trans e) (by decide)) (fun _ => rfl)

end Sys2Proof.Machine
end

