-- ==== Sys2Proof/Laws/Forms.lean ====
section
/-! SUPPORT. The schedule of each form, for the instructions a selector builds. -/

namespace Sys2Proof.Machine

@[simp] theorem cyclesOf_ldRegReg (dst src : Reg8) : cyclesOf (Instr.ldRegReg dst src) = ldRegRegCycles dst src := 
    by cases dst <;> cases src <;> rfl
@[simp] theorem cyclesOf_ldRegImm (r : Reg8) (n : Byte) : cyclesOf (Instr.ldRegImm r n) = ldRegImmCycles r n := 
    by cases r <;> rfl
@[simp] theorem cyclesOf_ldRegMem (r : Reg8) : cyclesOf (Instr.ldRegMem r) = ldRegMemCycles r := by cases r <;> rfl
@[simp] theorem cyclesOf_ldMemReg (r : Reg8) : cyclesOf (Instr.ldMemReg r) = ldMemRegCycles r := by cases r <;> rfl
@[simp] theorem cyclesOf_aluReg (op : AluOp) (r : Reg8) : cyclesOf (Instr.aluReg op r) = aluRegCycles op r := 
    by cases op <;> cases r <;> rfl
@[simp] theorem cyclesOf_aluMem (op : AluOp) : cyclesOf (Instr.aluMem op) = aluMemCycles op := by cases op <;> rfl
@[simp] theorem cyclesOf_aluImm (op : AluOp) (n : Byte) : cyclesOf (Instr.aluImm op n) = aluImmCycles op n := 
    by cases op <;> rfl
@[simp] theorem cyclesOf_incReg (r : Reg8) : cyclesOf (Instr.incReg r) = incRegCycles r := by cases r <;> rfl
@[simp] theorem cyclesOf_decReg (r : Reg8) : cyclesOf (Instr.decReg r) = decRegCycles r := by cases r <;> rfl
@[simp] theorem cyclesOf_ldPairImm (rr : Reg16) (nn : Word) : cyclesOf (Instr.ldPairImm rr nn) = ldPairImmCycles rr nn := 
    by cases rr <;> rfl
@[simp] theorem cyclesOf_addHl (rr : Reg16) : cyclesOf (Instr.addHl rr) = addHlCycles rr := by cases rr <;> rfl
@[simp] theorem cyclesOf_incPair (rr : Reg16) : cyclesOf (Instr.incPair rr) = incPairCycles rr := by cases rr <;> rfl
@[simp] theorem cyclesOf_decPair (rr : Reg16) : cyclesOf (Instr.decPair rr) = decPairCycles rr := by cases rr <;> rfl
@[simp] theorem cyclesOf_push (rr : Reg16s) : cyclesOf (Instr.push rr) = pushCycles rr := by cases rr <;> rfl
@[simp] theorem cyclesOf_pop (rr : Reg16s) : cyclesOf (Instr.pop rr) = popCycles rr := by cases rr <;> rfl
@[simp] theorem cyclesOf_jpCond (cc : Cond) (nn : Word) : cyclesOf (Instr.jpCond cc nn) = jpCondCycles cc nn := 
    by cases cc <;> rfl
@[simp] theorem cyclesOf_jrCond (cc : Cond) (e : Int) : cyclesOf (Instr.jrCond cc e) = jrCondCycles cc e := 
    by cases cc <;> rfl
@[simp] theorem cyclesOf_callCond (cc : Cond) (nn : Word) : cyclesOf (Instr.callCond cc nn) = callCondCycles cc nn := 
    by cases cc <;> rfl
@[simp] theorem cyclesOf_retCond (cc : Cond) : cyclesOf (Instr.retCond cc) = retCondCycles cc := by cases cc <;> rfl
@[simp] theorem cyclesOf_rst (y : Fin 8) : cyclesOf (Instr.rst y) = rstCycles y := by fin_cases y <;> rfl
@[simp] theorem cyclesOf_shiftReg (op : ShiftOp) (r : Reg8) : cyclesOf (Instr.shiftReg op r) = shiftRegCycles op r := 
    by cases op <;> cases r <;> rfl
@[simp] theorem cyclesOf_shiftMem (op : ShiftOp) : cyclesOf (Instr.shiftMem op) = shiftMemCycles op := 
    by cases op <;> rfl
@[simp] theorem cyclesOf_bitReg (b : Fin 8) (r : Reg8) : cyclesOf (Instr.bitReg b r) = bitRegCycles b r := 
    by fin_cases b <;> cases r <;> rfl
@[simp] theorem cyclesOf_bitMem (b : Fin 8) : cyclesOf (Instr.bitMem b) = bitMemCycles b := by fin_cases b <;> rfl
@[simp] theorem cyclesOf_resReg (b : Fin 8) (r : Reg8) : cyclesOf (Instr.resReg b r) = resRegCycles b r := 
    by fin_cases b <;> cases r <;> rfl
@[simp] theorem cyclesOf_resMem (b : Fin 8) : cyclesOf (Instr.resMem b) = resMemCycles b := by fin_cases b <;> rfl
@[simp] theorem cyclesOf_setReg (b : Fin 8) (r : Reg8) : cyclesOf (Instr.setReg b r) = setRegCycles b r := 
    by fin_cases b <;> cases r <;> rfl
@[simp] theorem cyclesOf_setMem (b : Fin 8) : cyclesOf (Instr.setMem b) = setMemCycles b := by fin_cases b <;> rfl

end Sys2Proof.Machine
end

