-- ==== Sys2Proof/Laws/Frame.lean ====
section
/-! SUPPORT. How an instruction gets from one state to another: by changes inside the CPU, ends of machine cycles, and bus
writes at the addresses it stores to. Every frame is one induction over this. -/

namespace Sys2Proof.Machine

/-- A state reached by CPU changes, ends of machine cycles, and bus writes at addresses of a list. -/
inductive Reach (stores : List Word) (s : State) : State → Prop where
  | refl : Reach stores s s
  | cpu {t : State} (c : Cpu) : Reach stores s t → Reach stores s (t.withCpu c)
  | write {t : State} (a : Word) (v : Byte) : a ∈ stores → Reach stores s t → Reach stores s (memWrite t a v)
  | cycle {t : State} : Reach stores s t → Reach stores s (endCycle t)

variable {S : List Word} {s t : State}

/-- A change inside the CPU alone. -/
theorem Reach.ofCpu {u : State} (h : Reach S s t) (e : u = t.withCpu u.cpu) : Reach S s u := by
  rw [e]
  exact h.cpu u.cpu

theorem Reach.trans {u : State} (h : Reach S s t) (g : Reach S t u) : Reach S s u := by
  induction g with
  | refl => exact h
  | cpu c _ ih => exact ih.cpu c
  | write a v ha _ ih => exact ih.write a v ha
  | cycle _ ih => exact ih.cycle

theorem Reach.mono {T : List Word} (h : Reach S s t) (sub : ∀ a ∈ S, a ∈ T) : Reach T s t := by
  induction h with
  | refl => exact .refl
  | cpu c _ ih => exact ih.cpu c
  | write a v ha _ ih => exact ih.write a v (sub a ha)
  | cycle _ ih => exact ih.cycle

/-- From one machine cycle to the next. -/
theorem Reach.between (h : Reach S s t) : Reach S s (between t) := (h.ofCpu (u := t.nextStage) rfl).cycle

/-- A pushed byte. -/
theorem Reach.pushByte (v : Byte) (h : Reach S s t) (ha : t.cpu.sp - 1 ∈ S) : Reach S s (pushByte t v) :=
  (h.ofCpu (u := t.setSp (t.cpu.sp - 1)) rfl).write _ _ ha

/-- A pushed word. -/
theorem Reach.pushWord (v : Word) (h : Reach S s t) (ha : t.cpu.sp - 1 ∈ S) (hb : t.cpu.sp - 2 ∈ S) :
    Reach S s (pushWord t v) := by
  refine Reach.pushByte _ (h.pushByte _ ha).between ?_
  rw [between_cpu_sp, pushByte_cpu]
  simpa only [BitVec.ofNat_eq_ofNat, sub_one_one] using hb

/-! ### Runs -/

/-- A cycle that changes only the CPU. -/
def CpuOnly (c : Cycle) : Prop := ∀ s, (c s).state = s.withCpu (c s).state.cpu

@[simp] theorem cpuOnly_idle : CpuOnly idle := fun _ => rfl

theorem cpuOnly_going {f : State → State} (h : ∀ s, f s = s.withCpu (f s).cpu) : CpuOnly (going f) := fun s => by
  show (f s).nextStage = s.withCpu (f s).nextStage.cpu
  rw [h s]
  rfl

theorem cpuOnly_last {f : State → State} (h : ∀ s, f s = s.withCpu (f s).cpu) : CpuOnly (last f) := fun s => h s

@[simp] theorem cpuOnly_branch (cc : Cond) (n : Word) : CpuOnly (branch cc n) := fun s => by
  by_cases h : condHolds cc s.cpu.f <;> simp only [branch, h] <;> rfl

/-- The cycles of a list change only the CPU. -/
def AllCpuOnly (cs : List Cycle) : Prop := ∀ c ∈ cs, CpuOnly c

/-- A run of cycles that change only the CPU stores nothing. -/
theorem runCycles_reach (cs : List Cycle) (s : State) (h : AllCpuOnly cs) : Reach [] s (runCycles cs s) := by
  induction cs generalizing s with
  | nil => exact .refl
  | cons c cs ih =>
    have hc := h c (.head _) s
    rw [runCycles_cons]
    cases e : c s with
    | more t =>
      rw [e] at hc
      have hs : endCycle t.nextStage = between t := rfl
      have first : Reach [] s (between t) := by
        rw [← hs]
        exact (Reach.refl.ofCpu (u := t.nextStage) hc).cycle
      exact first.trans (ih (between t) fun d hd => h d (.tail _ hd))
    | done t =>
      rw [e] at hc
      exact Reach.refl.ofCpu hc

@[simp] theorem allCpuOnly_nil : AllCpuOnly [] := by simp [AllCpuOnly]
@[simp] theorem allCpuOnly_cons (c : Cycle) (cs : List Cycle) : AllCpuOnly (c :: cs) ↔ CpuOnly c ∧ AllCpuOnly cs := by
  simp [AllCpuOnly]
@[simp] theorem allCpuOnly_append (cs ds : List Cycle) : AllCpuOnly (cs ++ ds) ↔ AllCpuOnly cs ∧ AllCpuOnly ds := by
  simp only [AllCpuOnly, List.mem_append]
  exact ⟨fun h => ⟨fun c hc => h c (.inl hc), fun c hc => h c (.inr hc)⟩, fun h c hc => hc.elim (h.1 c) (h.2 c)⟩

theorem allCpuOnly_last {f : State → State} (h : ∀ s, f s = s.withCpu (f s).cpu) : AllCpuOnly [last f] := by
  simp [cpuOnly_last h]

theorem allCpuOnly_idleLast {f : State → State} (h : ∀ s, f s = s.withCpu (f s).cpu) : AllCpuOnly [idle, last f] := by
  simp [cpuOnly_last h]

theorem allCpuOnly_return (after : State → State) (h : ∀ s, after s = s.withCpu (after s).cpu) :
    AllCpuOnly (returnCycles after) := by
  have e : ∀ s : State, after (s.retire s.cpu.d16) = s.withCpu (after (s.retire s.cpu.d16)).cpu := fun s => by
    rw [h (s.retire s.cpu.d16)]
    rfl
  simp [returnCycles, cpuOnly_last e, cpuOnly_going (f := popLow) fun _ => rfl,
    cpuOnly_going (f := popHigh) fun _ => rfl]

/-! ### The forms that store nothing -/

@[simp] theorem ldRegReg_cpuOnly (dst src : Reg8) : AllCpuOnly (ldRegRegCycles dst src) :=
  allCpuOnly_last fun _ => rfl
@[simp] theorem ldRegImm_cpuOnly (r : Reg8) (n : Byte) : AllCpuOnly (ldRegImmCycles r n) :=
  allCpuOnly_last fun _ => rfl
@[simp] theorem ldRegMem_cpuOnly (r : Reg8) : AllCpuOnly (ldRegMemCycles r) := allCpuOnly_idleLast fun _ => rfl
@[simp] theorem ldAPair_cpuOnly (r : Reg16) : AllCpuOnly (ldAPairCycles r) := allCpuOnly_idleLast fun _ => rfl
@[simp] theorem ldAAbs_cpuOnly (n : Word) : AllCpuOnly (ldAAbsCycles n) := allCpuOnly_idleLast fun _ => rfl
@[simp] theorem ldhAC_cpuOnly : AllCpuOnly (ldhACCycles) := allCpuOnly_idleLast fun _ => rfl
@[simp] theorem ldhAImm_cpuOnly (n : Byte) : AllCpuOnly (ldhAImmCycles n) := allCpuOnly_idleLast fun _ => rfl
@[simp] theorem ldAHlStep_cpuOnly (d : Word) : AllCpuOnly (ldAHlStepCycles d) := allCpuOnly_idleLast fun _ => rfl
@[simp] theorem ldPairImm_cpuOnly (r : Reg16) (n : Word) : AllCpuOnly (ldPairImmCycles r n) :=
  allCpuOnly_last fun _ => rfl
@[simp] theorem ldSpHl_cpuOnly : AllCpuOnly (ldSpHlCycles) := allCpuOnly_idleLast fun _ => rfl
@[simp] theorem ldHlSp_cpuOnly (e : Int) : AllCpuOnly (ldHlSpCycles e) := allCpuOnly_idleLast fun _ => rfl
@[simp] theorem aluReg_cpuOnly (op : AluOp) (r : Reg8) : AllCpuOnly (aluRegCycles op r) :=
  allCpuOnly_last fun _ => rfl
@[simp] theorem aluMem_cpuOnly (op : AluOp) : AllCpuOnly (aluMemCycles op) := allCpuOnly_idleLast fun _ => rfl
@[simp] theorem aluImm_cpuOnly (op : AluOp) (n : Byte) : AllCpuOnly (aluImmCycles op n) :=
  allCpuOnly_last fun _ => rfl
@[simp] theorem incReg_cpuOnly (r : Reg8) : AllCpuOnly (incRegCycles r) := allCpuOnly_last fun _ => rfl
@[simp] theorem decReg_cpuOnly (r : Reg8) : AllCpuOnly (decRegCycles r) := allCpuOnly_last fun _ => rfl
@[simp] theorem daa_cpuOnly : AllCpuOnly (daaCycles) := allCpuOnly_last fun _ => rfl
@[simp] theorem cpl_cpuOnly : AllCpuOnly (cplCycles) := allCpuOnly_last fun _ => rfl
@[simp] theorem scf_cpuOnly : AllCpuOnly (scfCycles) := allCpuOnly_last fun _ => rfl
@[simp] theorem ccf_cpuOnly : AllCpuOnly (ccfCycles) := allCpuOnly_last fun _ => rfl
@[simp] theorem addHl_cpuOnly (r : Reg16) : AllCpuOnly (addHlCycles r) := allCpuOnly_idleLast fun _ => rfl
@[simp] theorem incPair_cpuOnly (r : Reg16) : AllCpuOnly (incPairCycles r) := allCpuOnly_idleLast fun _ => rfl
@[simp] theorem decPair_cpuOnly (r : Reg16) : AllCpuOnly (decPairCycles r) := allCpuOnly_idleLast fun _ => rfl
@[simp] theorem accRotate_cpuOnly (op : ShiftOp) : AllCpuOnly (accRotateCycles op) := allCpuOnly_last fun _ => rfl
@[simp] theorem shiftReg_cpuOnly (op : ShiftOp) (r : Reg8) : AllCpuOnly (shiftRegCycles op r) :=
  allCpuOnly_last fun _ => rfl
@[simp] theorem bitReg_cpuOnly (b : Fin 8) (r : Reg8) : AllCpuOnly (bitRegCycles b r) := allCpuOnly_last fun _ => rfl
@[simp] theorem bitMem_cpuOnly (b : Fin 8) : AllCpuOnly (bitMemCycles b) := allCpuOnly_idleLast fun _ => rfl
@[simp] theorem resReg_cpuOnly (b : Fin 8) (r : Reg8) : AllCpuOnly (resRegCycles b r) := allCpuOnly_last fun _ => rfl
@[simp] theorem setReg_cpuOnly (b : Fin 8) (r : Reg8) : AllCpuOnly (setRegCycles b r) := allCpuOnly_last fun _ => rfl
@[simp] theorem jp_cpuOnly (n : Word) : AllCpuOnly (jpCycles n) := allCpuOnly_idleLast fun _ => rfl
@[simp] theorem jpHl_cpuOnly : AllCpuOnly (jpHlCycles) := allCpuOnly_last fun _ => rfl
@[simp] theorem jr_cpuOnly (e : Int) : AllCpuOnly (jrCycles e) := allCpuOnly_idleLast fun _ => rfl
@[simp] theorem nop_cpuOnly : AllCpuOnly (nopCycles) := allCpuOnly_last fun _ => rfl
@[simp] theorem halt_cpuOnly : AllCpuOnly (haltCycles) := allCpuOnly_last fun _ => rfl
@[simp] theorem di_cpuOnly : AllCpuOnly (diCycles) := allCpuOnly_last fun _ => rfl
@[simp] theorem ei_cpuOnly : AllCpuOnly (eiCycles) := allCpuOnly_last fun _ => rfl
@[simp] theorem undefined_cpuOnly (op : Byte) : AllCpuOnly (undefinedCycles op) := allCpuOnly_last fun _ => rfl
@[simp] theorem addSp_cpuOnly (e : Int) : AllCpuOnly (addSpCycles e) :=
  (allCpuOnly_cons _ _).2 ⟨cpuOnly_idle, allCpuOnly_idleLast fun _ => rfl⟩
@[simp] theorem pop_cpuOnly (r : Reg16s) : AllCpuOnly (popCycles r) :=
  (allCpuOnly_cons _ _).2 ⟨cpuOnly_idle, (allCpuOnly_cons _ _).2
    ⟨cpuOnly_going fun _ => rfl, allCpuOnly_last fun _ => rfl⟩⟩
@[simp] theorem jpCond_cpuOnly (cc : Cond) (n : Word) : AllCpuOnly (jpCondCycles cc n) :=
  (allCpuOnly_cons _ _).2 ⟨cpuOnly_branch _ _, allCpuOnly_last fun _ => rfl⟩
@[simp] theorem jrCond_cpuOnly (cc : Cond) (e : Int) : AllCpuOnly (jrCondCycles cc e) :=
  (allCpuOnly_cons _ _).2 ⟨cpuOnly_branch _ _, allCpuOnly_last fun _ => rfl⟩
@[simp] theorem ret_cpuOnly : AllCpuOnly retCycles := by simp [retCycles, allCpuOnly_return id fun _ => rfl]
@[simp] theorem retCond_cpuOnly (cc : Cond) : AllCpuOnly (retCondCycles cc) := by
  simp [retCondCycles, allCpuOnly_return id fun _ => rfl]
@[simp] theorem reti_cpuOnly : AllCpuOnly retiCycles := by
  simp [retiCycles, allCpuOnly_return enableInterrupts fun _ => rfl]
@[simp] theorem stop_cpuOnly : AllCpuOnly stopCycles := by
  refine allCpuOnly_last fun s => ?_
  unfold stop
  cases s.params.stopMode <;> rfl

/-- The instructions that store to memory. -/
def Instr.storing : Instr → Bool
  | .ld_mhl_b | .ld_mhl_c | .ld_mhl_d | .ld_mhl_e | .ld_mhl_h | .ld_mhl_l | .ld_mhl_a | .ld_mhl_n _ => true
  | .ld_mhli_a | .ld_mhld_a | .inc_mhl | .dec_mhl | .ld_mbc_a | .ld_mde_a | .ld_mnn_a _ => true
  | .ldh_mc_a | .ldh_mn_a _ | .ld_mnn_sp _ | .push_bc | .push_de | .push_hl | .push_af => true
  | .call_nn _ | .call_nz_nn _ | .call_z_nn _ | .call_nc_nn _ | .call_c_nn _ => true
  | .rst_00 | .rst_08 | .rst_10 | .rst_18 | .rst_20 | .rst_28 | .rst_30 | .rst_38 => true
  | .rlc_mhl | .rrc_mhl | .rl_mhl | .rr_mhl | .sla_mhl | .sra_mhl | .swap_mhl | .srl_mhl => true
  | .res_0_mhl | .res_1_mhl | .res_2_mhl | .res_3_mhl | .res_4_mhl | .res_5_mhl | .res_6_mhl | .res_7_mhl => true
  | .set_0_mhl | .set_1_mhl | .set_2_mhl | .set_3_mhl | .set_4_mhl | .set_5_mhl | .set_6_mhl | .set_7_mhl => true
  | _ => false

/-- Every other instruction changes only the CPU. -/
theorem cyclesOf_cpuOnly (i : Instr) (h : Instr.storing i = false) : AllCpuOnly (cyclesOf i) := by
  cases i <;> first | (simp [cyclesOf]; done) | cases h

/-! ### The forms that store -/

theorem store_reach (a : State → Word) (v : State → Byte) (after : State → State) (n : Word) (s : State)
    (h : ∀ s, after s = s.withCpu (after s).cpu) :
    Reach [a (between s)] s (runCycles (storeCycles a v after n) s) := by
  have write : Reach [a (between s)] s (memWrite (between s) (a (between s)) (v (between s))) :=
    Reach.refl.between.write _ _ (.head _)
  exact (write.ofCpu (h _)).ofCpu rfl

theorem ldAbsSp_reach (nn : Word) (s : State) : Reach [nn, nn + 1] s (runCycles (ldAbsSpCycles nn) s) :=
  (((Reach.refl.between.write nn _ (.head _)).between.write (nn + 1) _ (.tail _ (.head _))).ofCpu rfl)

theorem pushThenJump_reach (v target : State → Word) (after : State → State) (s : State)
    (h : ∀ s, after s = s.withCpu (after s).cpu) :
    Reach [s.cpu.sp - 1, s.cpu.sp - 2] s (runCycles (pushThenJump v target after) s) := by
  have first : Reach [s.cpu.sp - 1, s.cpu.sp - 2] s (between (pushByte s (hiByte (v s)))) :=
    (Reach.refl.pushByte _ (.head _)).between
  have second := first.pushByte (loByte (v (between (pushByte s (hiByte (v s)))))) (by
    rw [between_cpu_sp, pushByte_cpu]
    simp only [BitVec.ofNat_eq_ofNat, sub_one_one]
    exact .tail _ (.head _))
  have retired := second.ofCpu (u := (pushByte (between (pushByte s (hiByte (v s))))
    (loByte (v (between (pushByte s (hiByte (v s))))))).retire (target (between (pushByte s (hiByte (v s)))))) rfl
  exact retired.ofCpu (h _)

theorem callTail_reach (nn : Word) (s : State) :
    Reach [s.cpu.sp - 1, s.cpu.sp - 2] s (runCycles (callTail nn) s) :=
  pushThenJump_reach _ _ _ s fun _ => rfl

/-- A run that stores to SP-1 and SP-2, two machine cycles later. -/
theorem Reach.twoCyclesLater {f : State → State} (s : State)
    (h : ∀ t : State, Reach [t.cpu.sp - 1, t.cpu.sp - 2] t (f t)) :
    Reach [s.cpu.sp - 1, s.cpu.sp - 2] s (f (Machine.between (Machine.between s))) := by
  have later := h (Machine.between (Machine.between s))
  rw [between_cpu_sp, between_cpu_sp] at later
  exact Reach.refl.between.between.trans later

theorem push_reach (rr : Reg16s) (s : State) : Reach [s.cpu.sp - 1, s.cpu.sp - 2] s (runCycles (pushCycles rr) s) :=
  Reach.twoCyclesLater (f := runCycles (pushThenJump (fun s => s.r16s rr) (fun s => s.cpu.pc + 1) id)) s
    fun t => pushThenJump_reach _ _ _ t fun _ => rfl

theorem call_reach (nn : Word) (s : State) : Reach [s.cpu.sp - 1, s.cpu.sp - 2] s (runCycles (callCycles nn) s) :=
  Reach.twoCyclesLater (f := runCycles (callTail nn)) s (callTail_reach nn)

theorem rst_reach (y : Fin 8) (s : State) : Reach [s.cpu.sp - 1, s.cpu.sp - 2] s (runCycles (rstCycles y) s) :=
  Reach.twoCyclesLater (f := runCycles (pushThenJump (fun s => s.cpu.pc + 1) (fun _ => rstTarget y) id)) s
    fun t => pushThenJump_reach _ _ _ t fun _ => rfl

theorem callCond_reach (cc : Cond) (nn : Word) (s : State) :
    Reach (if condHolds cc s.cpu.f then [s.cpu.sp - 1, s.cpu.sp - 2] else []) s (runCycles (callCondCycles cc nn) s) := by
  rw [callCondCycles]
  simp only [List.cons_append, List.nil_append, runCycles_branch, runCycles_idle]
  split
  · exact Reach.twoCyclesLater (f := runCycles (callTail nn)) s (callTail_reach nn)
  · exact Reach.refl.ofCpu rfl

theorem advance_memWrite_reach (s : State) (a : Word) (v : Byte) (f : Flags) (n : Word) :
    Reach [a] s (((memWrite (between (between s)) a v).setFlags f).advance n) :=
  (Reach.refl.between.between.write a v (.head _)).ofCpu rfl

theorem incMem_reach (s : State) : Reach [s.hl] s (runCycles incMemCycles s) := by
  rw [runCycles_incMem]
  exact advance_memWrite_reach _ _ _ _ _

theorem decMem_reach (s : State) : Reach [s.hl] s (runCycles decMemCycles s) := by
  rw [runCycles_decMem]
  exact advance_memWrite_reach _ _ _ _ _

theorem modifyMem_reach (f : Byte → Flags → Byte) (g : Byte → Flags → Flags) (s : State) :
    Reach [s.hl] s (runCycles (modifyMemCycles f g) s) := by
  rw [runCycles_modifyMem]
  exact advance_memWrite_reach _ _ _ _ _

theorem shiftMem_reach (op : ShiftOp) (s : State) : Reach [s.hl] s (runCycles (shiftMemCycles op) s) :=
  modifyMem_reach (fun v f => shiftResult op v f.c) (fun v f => shiftFlags op v f.c) s

theorem resMem_reach (b : Fin 8) (s : State) : Reach [s.hl] s (runCycles (resMemCycles b) s) :=
  modifyMem_reach (fun v _ => resResult b v) (fun _ f => f) s

theorem setMem_reach (b : Fin 8) (s : State) : Reach [s.hl] s (runCycles (setMemCycles b) s) :=
  modifyMem_reach (fun v _ => setResult b v) (fun _ f => f) s

/-- A store at an address that the end of a machine cycle leaves as it is. -/
theorem storeAt_reach {a : State → Word} {v : State → Byte} {after : State → State} {n : Word} (s : State)
    (h : ∀ s, after s = s.withCpu (after s).cpu) (e : a (between s) = a s) :
    Reach [a s] s (runCycles (storeCycles a v after n) s) := by
  have := store_reach a v after n s h
  rwa [e] at this

theorem ldMemReg_reach (r : Reg8) (s : State) : Reach [s.hl] s (runCycles (ldMemRegCycles r) s) :=
  storeAt_reach s (fun _ => rfl) (between_hl s)
theorem ldMemImm_reach (n : Byte) (s : State) : Reach [s.hl] s (runCycles (ldMemImmCycles n) s) :=
  storeAt_reach s (fun _ => rfl) (between_hl s)
theorem ldHlStepA_reach (d : Word) (s : State) : Reach [s.hl] s (runCycles (ldHlStepACycles d) s) :=
  storeAt_reach s (fun _ => rfl) (between_hl s)
theorem ldPairA_reach (r : Reg16) (s : State) : Reach [s.r16 r] s (runCycles (ldPairACycles r) s) :=
  storeAt_reach (a := fun s => s.r16 r) s (fun _ => rfl) (between_r16 s r)
theorem ldAbsA_reach (nn : Word) (s : State) : Reach [nn] s (runCycles (ldAbsACycles nn) s) :=
  storeAt_reach (a := fun _ => nn) s (fun _ => rfl) rfl
theorem ldhCA_reach (s : State) : Reach [0xFF00 + zext16 s.cpu.c] s (runCycles ldhCACycles s) :=
  storeAt_reach (a := fun s => lastPage (s.r8 .c)) s (fun _ => rfl) (by rw [between_r8])
theorem ldhImmA_reach (n : Byte) (s : State) : Reach [0xFF00 + zext16 n] s (runCycles (ldhImmACycles n) s) :=
  storeAt_reach (a := fun _ => lastPage n) s (fun _ => rfl) rfl

end Sys2Proof.Machine
end

