-- ==== Sys2Proof/Laws/Schedule.lean ====
section
/-! SUPPORT. The instruction's schedule against its row of the opcode table: what each cycle keeps of IR and of the
operands in the pass-through, and the number of cycles a run takes. With this the step is a number of single machine
cycles. -/

namespace Sys2Proof.Machine

/-! ### What a cycle keeps of the latched instruction -/

/-- A cycle that goes on keeps IR, the stage, `fatal`, and the operands the latched instruction is read from: `d8` if
`k8`, `d16` if `k16`. A terminal cycle leaves stage 0, or the machine stopped. -/
def GoesOn (k8 k16 : Bool) (c : Cycle) : Prop :=
  ∀ s, s.cpu.fatal = none → match c s with
    | .more t => t.cpu.ir = s.cpu.ir ∧ t.cpu.stage = s.cpu.stage ∧ t.cpu.fatal = none ∧
        (k8 = true → t.cpu.d8 = s.cpu.d8) ∧ (k16 = true → t.cpu.d16 = s.cpu.d16)
    | .done t => (t.cpu.stage = 0 ∧ t.cpu.fatal = none) ∨ t.cpu.fatal.isSome = true

/-- A list of cycles that go on and a terminal one. -/
def Terminates (k8 k16 : Bool) : List Cycle → Prop
  | [] => False
  | [c] => GoesOn k8 k16 c ∧ ∀ s, ∃ t, c s = .done t
  | c :: c' :: cs => GoesOn k8 k16 c ∧ Terminates k8 k16 (c' :: cs)

/-- How many machine cycles a run takes. -/
def cycleCount : List Cycle → State → Nat
  | [], _ => 0
  | c :: cs, s =>
    match c s with
    | .more t => 1 + cycleCount cs (between t)
    | .done _ => 1

@[simp] theorem cycleCount_nil (s : State) : cycleCount [] s = 0 := rfl
@[simp] theorem cycleCount_idle (cs : List Cycle) (s : State) :
    cycleCount (idle :: cs) s = 1 + cycleCount cs (between s) := rfl
@[simp] theorem cycleCount_going (f : State → State) (cs : List Cycle) (s : State) :
    cycleCount (going f :: cs) s = 1 + cycleCount cs (between (f s)) := rfl
@[simp] theorem cycleCount_last (f : State → State) (cs : List Cycle) (s : State) : cycleCount (last f :: cs) s = 1 := rfl
@[simp] theorem cycleCount_branch (cc : Cond) (n : Word) (cs : List Cycle) (s : State) :
    cycleCount (branch cc n :: cs) s = if condHolds cc s.cpu.f then 1 + cycleCount cs (between s) else 1 := by
  by_cases h : condHolds cc s.cpu.f <;> simp [cycleCount, branch, h]

@[simp] theorem goesOn_idle (k8 k16 : Bool) : GoesOn k8 k16 idle := fun _ h => ⟨rfl, rfl, h, fun _ => rfl, fun _ => rfl⟩
@[simp] theorem goesOn_branch (k8 k16 : Bool) (cc : Cond) (n : Word) : GoesOn k8 k16 (branch cc n) := by
  intro s h
  by_cases hc : condHolds cc s.cpu.f <;> simp [branch, hc, h]
theorem goesOn_going {k8 k16 : Bool} {f : State → State} : GoesOn k8 k16 (going f) ↔ ∀ s, s.cpu.fatal = none →
    (f s).cpu.ir = s.cpu.ir ∧ (f s).cpu.stage = s.cpu.stage ∧ (f s).cpu.fatal = none ∧
      (k8 = true → (f s).cpu.d8 = s.cpu.d8) ∧ (k16 = true → (f s).cpu.d16 = s.cpu.d16) := Iff.rfl
theorem goesOn_last {k8 k16 : Bool} {f : State → State} : GoesOn k8 k16 (last f) ↔ ∀ s, s.cpu.fatal = none →
    ((f s).cpu.stage = 0 ∧ (f s).cpu.fatal = none) ∨ (f s).cpu.fatal.isSome = true := Iff.rfl

theorem terminates_one {k8 k16 : Bool} {f : State → State} : Terminates k8 k16 [last f] ↔ GoesOn k8 k16 (last f) :=
  ⟨fun h => h.1, fun h => ⟨h, fun s => ⟨f s, rfl⟩⟩⟩
theorem terminates_cons {k8 k16 : Bool} {c c' : Cycle} {cs : List Cycle} :
    Terminates k8 k16 (c :: c' :: cs) ↔ GoesOn k8 k16 c ∧ Terminates k8 k16 (c' :: cs) := Iff.rfl

/-- A terminal cycle that retires. -/
theorem goesOn_retire {k8 k16 : Bool} {f : State → State}
    (h : ∀ s, (f s).cpu.stage = 0 ∧ (f s).cpu.fatal = s.cpu.fatal) : GoesOn k8 k16 (last f) :=
  fun s running => .inl ⟨(h s).1, (h s).2.trans running⟩

theorem terminates_last {k8 k16 : Bool} {f : State → State}
    (h : ∀ s, (f s).cpu.stage = 0 ∧ (f s).cpu.fatal = s.cpu.fatal) : Terminates k8 k16 [last f] :=
  terminates_one.2 (goesOn_retire h)

theorem terminates_idle {k8 k16 : Bool} {c : Cycle} {cs : List Cycle} (h : Terminates k8 k16 (c :: cs)) :
    Terminates k8 k16 (idle :: c :: cs) := ⟨goesOn_idle k8 k16, h⟩

theorem terminates_branch {k8 k16 : Bool} {cc : Cond} {n : Word} {c : Cycle} {cs : List Cycle}
    (h : Terminates k8 k16 (c :: cs)) : Terminates k8 k16 (branch cc n :: c :: cs) := ⟨goesOn_branch k8 k16 cc n, h⟩

/-- After a bus write, the CPU is as it was. -/
theorem memWrite_stage_fatal (s : State) (a : Word) (v : Byte) :
    (memWrite s a v).cpu.stage = s.cpu.stage ∧ (memWrite s a v).cpu.fatal = s.cpu.fatal := by simp

theorem load_terminates (k8 k16 : Bool) (r : Reg8) (a : State → Word) (after : State → State) (n : Word)
    (h : ∀ s, (after s).cpu.fatal = s.cpu.fatal) : Terminates k8 k16 (loadCycles r a after n) :=
  terminates_idle (terminates_last fun s => ⟨rfl, by simpa using h (s.setR8 r (memRead s (a s)))⟩)

theorem store_terminates (k8 k16 : Bool) (a : State → Word) (v : State → Byte) (after : State → State) (n : Word)
    (h : ∀ s, (after s).cpu.fatal = s.cpu.fatal) : Terminates k8 k16 (storeCycles a v after n) :=
  terminates_idle (terminates_last fun s => ⟨rfl, (h (memWrite s (a s) (v s))).trans (memWrite_stage_fatal _ _ _).2⟩)

theorem pushThenJump_terminates (k8 k16 : Bool) (v target : State → Word) (after : State → State)
    (h : ∀ s, (after s).cpu.stage = s.cpu.stage ∧ (after s).cpu.fatal = s.cpu.fatal) :
    Terminates k8 k16 (pushThenJump v target after) := by
  refine ⟨goesOn_going.2 fun s running => ?_, terminates_last fun s => ⟨(h _).1, (h _).2.trans ?_⟩⟩
  · simp [running]
  · simp

theorem return_terminates (after : State → State)
    (h : ∀ s, (after s).cpu.stage = s.cpu.stage ∧ (after s).cpu.fatal = s.cpu.fatal) :
    Terminates false false (returnCycles after) :=
  ⟨goesOn_going.2 fun _ running => ⟨rfl, rfl, running, nofun, nofun⟩,
    goesOn_going.2 fun _ running => ⟨rfl, rfl, running, nofun, nofun⟩,
    terminates_last fun _ => ⟨(h _).1, (h _).2⟩⟩

theorem modifyMem_terminates (k8 : Bool) (f : Byte → Flags → Byte) (g : Byte → Flags → Flags) :
    Terminates k8 false (modifyMemCycles f g) :=
  terminates_idle ⟨goesOn_going.2 fun _ running => ⟨rfl, rfl, running, fun _ => rfl, nofun⟩,
    terminates_last fun _ => ⟨rfl, (memWrite_stage_fatal _ _ _).2⟩⟩

@[simp] theorem ldRegReg_terminates (k8 k16 : Bool) (dst src : Reg8) :
    Terminates k8 k16 (ldRegRegCycles dst src) :=
  terminates_last fun _ => ⟨rfl, by simp⟩
@[simp] theorem ldRegImm_terminates (k8 k16 : Bool) (r : Reg8) (n : Byte) :
    Terminates k8 k16 (ldRegImmCycles r n) :=
  terminates_last fun _ => ⟨rfl, by simp⟩
@[simp] theorem ldRegMem_terminates (k8 k16 : Bool) (r : Reg8) :
    Terminates k8 k16 (ldRegMemCycles r) :=
  load_terminates _ _ _ _ _ _ fun _ => rfl
@[simp] theorem ldMemReg_terminates (k8 k16 : Bool) (r : Reg8) :
    Terminates k8 k16 (ldMemRegCycles r) :=
  store_terminates _ _ _ _ _ _ fun _ => rfl
@[simp] theorem ldMemImm_terminates (k8 k16 : Bool) (n : Byte) :
    Terminates k8 k16 (ldMemImmCycles n) :=
  store_terminates _ _ _ _ _ _ fun _ => rfl
@[simp] theorem ldAPair_terminates (k8 k16 : Bool) (r : Reg16) :
    Terminates k8 k16 (ldAPairCycles r) :=
  load_terminates _ _ _ _ _ _ fun _ => rfl
@[simp] theorem ldPairA_terminates (k8 k16 : Bool) (r : Reg16) :
    Terminates k8 k16 (ldPairACycles r) :=
  store_terminates _ _ _ _ _ _ fun _ => rfl
@[simp] theorem ldAAbs_terminates (k8 k16 : Bool) (n : Word) :
    Terminates k8 k16 (ldAAbsCycles n) :=
  load_terminates _ _ _ _ _ _ fun _ => rfl
@[simp] theorem ldAbsA_terminates (k8 k16 : Bool) (n : Word) :
    Terminates k8 k16 (ldAbsACycles n) :=
  store_terminates _ _ _ _ _ _ fun _ => rfl
@[simp] theorem ldhAC_terminates (k8 k16 : Bool) :
    Terminates k8 k16 (ldhACCycles) :=
  load_terminates _ _ _ _ _ _ fun _ => rfl
@[simp] theorem ldhCA_terminates (k8 k16 : Bool) :
    Terminates k8 k16 (ldhCACycles) :=
  store_terminates _ _ _ _ _ _ fun _ => rfl
@[simp] theorem ldhAImm_terminates (k8 k16 : Bool) (n : Byte) :
    Terminates k8 k16 (ldhAImmCycles n) :=
  load_terminates _ _ _ _ _ _ fun _ => rfl
@[simp] theorem ldhImmA_terminates (k8 k16 : Bool) (n : Byte) :
    Terminates k8 k16 (ldhImmACycles n) :=
  store_terminates _ _ _ _ _ _ fun _ => rfl
@[simp] theorem ldAHlStep_terminates (k8 k16 : Bool) (d : Word) :
    Terminates k8 k16 (ldAHlStepCycles d) :=
  load_terminates _ _ _ _ _ _ fun _ => rfl
@[simp] theorem ldHlStepA_terminates (k8 k16 : Bool) (d : Word) :
    Terminates k8 k16 (ldHlStepACycles d) :=
  store_terminates _ _ _ _ _ _ fun _ => rfl
@[simp] theorem ldPairImm_terminates (k8 k16 : Bool) (r : Reg16) (n : Word) :
    Terminates k8 k16 (ldPairImmCycles r n) :=
  terminates_last fun _ => ⟨rfl, by simp⟩
@[simp] theorem ldSpHl_terminates (k8 k16 : Bool) :
    Terminates k8 k16 (ldSpHlCycles) :=
  terminates_idle (terminates_last fun _ => ⟨rfl, rfl⟩)
@[simp] theorem ldHlSp_terminates (k8 k16 : Bool) (e : Int) :
    Terminates k8 k16 (ldHlSpCycles e) :=
  terminates_idle (terminates_last fun _ => ⟨rfl, rfl⟩)
@[simp] theorem aluReg_terminates (k8 k16 : Bool) (op : AluOp) (r : Reg8) :
    Terminates k8 k16 (aluRegCycles op r) :=
  terminates_last fun _ => ⟨rfl, by simp [applyAlu]⟩
@[simp] theorem aluMem_terminates (k8 k16 : Bool) (op : AluOp) :
    Terminates k8 k16 (aluMemCycles op) :=
  terminates_idle (terminates_last fun _ => ⟨rfl, rfl⟩)
@[simp] theorem aluImm_terminates (k8 k16 : Bool) (op : AluOp) (n : Byte) :
    Terminates k8 k16 (aluImmCycles op n) :=
  terminates_last fun _ => ⟨rfl, rfl⟩
@[simp] theorem incReg_terminates (k8 k16 : Bool) (r : Reg8) :
    Terminates k8 k16 (incRegCycles r) :=
  terminates_last fun _ => ⟨rfl, by simp⟩
@[simp] theorem decReg_terminates (k8 k16 : Bool) (r : Reg8) :
    Terminates k8 k16 (decRegCycles r) :=
  terminates_last fun _ => ⟨rfl, by simp⟩
@[simp] theorem daa_terminates (k8 k16 : Bool) :
    Terminates k8 k16 (daaCycles) :=
  terminates_last fun _ => ⟨rfl, rfl⟩
@[simp] theorem cpl_terminates (k8 k16 : Bool) :
    Terminates k8 k16 (cplCycles) :=
  terminates_last fun _ => ⟨rfl, rfl⟩
@[simp] theorem scf_terminates (k8 k16 : Bool) :
    Terminates k8 k16 (scfCycles) :=
  terminates_last fun _ => ⟨rfl, rfl⟩
@[simp] theorem ccf_terminates (k8 k16 : Bool) :
    Terminates k8 k16 (ccfCycles) :=
  terminates_last fun _ => ⟨rfl, rfl⟩
@[simp] theorem addHl_terminates (k8 k16 : Bool) (r : Reg16) :
    Terminates k8 k16 (addHlCycles r) :=
  terminates_idle (terminates_last fun _ => ⟨rfl, by simp⟩)
@[simp] theorem incPair_terminates (k8 k16 : Bool) (r : Reg16) :
    Terminates k8 k16 (incPairCycles r) :=
  terminates_idle (terminates_last fun _ => ⟨rfl, by simp⟩)
@[simp] theorem decPair_terminates (k8 k16 : Bool) (r : Reg16) :
    Terminates k8 k16 (decPairCycles r) :=
  terminates_idle (terminates_last fun _ => ⟨rfl, by simp⟩)
@[simp] theorem addSp_terminates (k8 k16 : Bool) (e : Int) :
    Terminates k8 k16 (addSpCycles e) :=
  terminates_idle (terminates_idle (terminates_last fun _ => ⟨rfl, rfl⟩))
@[simp] theorem accRotate_terminates (k8 k16 : Bool) (op : ShiftOp) :
    Terminates k8 k16 (accRotateCycles op) :=
  terminates_last fun _ => ⟨rfl, rfl⟩
@[simp] theorem shiftReg_terminates (k8 k16 : Bool) (op : ShiftOp) (r : Reg8) :
    Terminates k8 k16 (shiftRegCycles op r) :=
  terminates_last fun _ => ⟨rfl, by simp⟩
@[simp] theorem bitReg_terminates (k8 k16 : Bool) (b : Fin 8) (r : Reg8) :
    Terminates k8 k16 (bitRegCycles b r) :=
  terminates_last fun _ => ⟨rfl, by simp⟩
@[simp] theorem bitMem_terminates (k8 k16 : Bool) (b : Fin 8) :
    Terminates k8 k16 (bitMemCycles b) :=
  terminates_idle (terminates_last fun _ => ⟨rfl, rfl⟩)
@[simp] theorem resReg_terminates (k8 k16 : Bool) (b : Fin 8) (r : Reg8) :
    Terminates k8 k16 (resRegCycles b r) :=
  terminates_last fun _ => ⟨rfl, by simp⟩
@[simp] theorem setReg_terminates (k8 k16 : Bool) (b : Fin 8) (r : Reg8) :
    Terminates k8 k16 (setRegCycles b r) :=
  terminates_last fun _ => ⟨rfl, by simp⟩
@[simp] theorem jp_terminates (k8 k16 : Bool) (n : Word) :
    Terminates k8 k16 (jpCycles n) :=
  terminates_idle (terminates_last fun _ => ⟨rfl, rfl⟩)
@[simp] theorem jpHl_terminates (k8 k16 : Bool) :
    Terminates k8 k16 (jpHlCycles) :=
  terminates_last fun _ => ⟨rfl, rfl⟩
@[simp] theorem jr_terminates (k8 k16 : Bool) (e : Int) :
    Terminates k8 k16 (jrCycles e) :=
  terminates_idle (terminates_last fun _ => ⟨rfl, rfl⟩)
@[simp] theorem jpCond_terminates (k8 k16 : Bool) (cc : Cond) (n : Word) :
    Terminates k8 k16 (jpCondCycles cc n) :=
  terminates_branch (terminates_last fun _ => ⟨rfl, rfl⟩)
@[simp] theorem jrCond_terminates (k8 k16 : Bool) (cc : Cond) (e : Int) :
    Terminates k8 k16 (jrCondCycles cc e) :=
  terminates_branch (terminates_last fun _ => ⟨rfl, rfl⟩)
@[simp] theorem nop_terminates (k8 k16 : Bool) :
    Terminates k8 k16 (nopCycles) :=
  terminates_last fun _ => ⟨rfl, rfl⟩
@[simp] theorem halt_terminates (k8 k16 : Bool) :
    Terminates k8 k16 (haltCycles) :=
  terminates_last fun _ => ⟨rfl, rfl⟩
@[simp] theorem di_terminates (k8 k16 : Bool) :
    Terminates k8 k16 (diCycles) :=
  terminates_last fun _ => ⟨rfl, rfl⟩
@[simp] theorem ei_terminates (k8 k16 : Bool) :
    Terminates k8 k16 (eiCycles) :=
  terminates_last fun _ => ⟨rfl, rfl⟩
@[simp] theorem undefined_terminates (k8 k16 : Bool) (op : Byte) :
    Terminates k8 k16 (undefinedCycles op) :=
  terminates_one.2 fun _ _ => .inr rfl
@[simp] theorem stop_terminates (k8 k16 : Bool) :
    Terminates k8 k16 (stopCycles) := by
  refine terminates_one.2 fun s running => ?_
  show (((stop s).cpu.stage = 0 ∧ (stop s).cpu.fatal = none) ∨ (stop s).cpu.fatal.isSome = true)
  unfold stop
  cases s.params.stopMode
  · exact .inl ⟨rfl, running⟩
  · exact .inr rfl
@[simp] theorem ldAbsSp_terminates (k8 k16 : Bool) (n : Word) :
    Terminates k8 k16 (ldAbsSpCycles n) :=
  terminates_idle ⟨goesOn_going.2 fun s running => by simp [running],
    terminates_last fun _ => ⟨rfl, (memWrite_stage_fatal _ _ _).2⟩⟩
@[simp] theorem push_terminates (k8 k16 : Bool) (r : Reg16s) : Terminates k8 k16 (pushCycles r) :=
  terminates_idle (terminates_idle (pushThenJump_terminates _ _ _ _ _ fun _ => ⟨rfl, rfl⟩))
@[simp] theorem pop_terminates (r : Reg16s) : Terminates false false (popCycles r) :=
  terminates_idle ⟨goesOn_going.2 fun _ running => ⟨rfl, rfl, running, nofun, nofun⟩,
    terminates_last fun _ => ⟨rfl, by simp [popHigh]⟩⟩
@[simp] theorem incMem_terminates : Terminates false false incMemCycles :=
  terminates_idle ⟨goesOn_going.2 fun _ running => ⟨rfl, rfl, running, nofun, nofun⟩,
    terminates_last fun _ => ⟨rfl, (memWrite_stage_fatal _ _ _).2⟩⟩
@[simp] theorem decMem_terminates : Terminates false false decMemCycles :=
  terminates_idle ⟨goesOn_going.2 fun _ running => ⟨rfl, rfl, running, nofun, nofun⟩,
    terminates_last fun _ => ⟨rfl, (memWrite_stage_fatal _ _ _).2⟩⟩
@[simp] theorem shiftMem_terminates (k8 : Bool) (op : ShiftOp) : Terminates k8 false (shiftMemCycles op) :=
  modifyMem_terminates _ _ _
@[simp] theorem resMem_terminates (k8 : Bool) (b : Fin 8) : Terminates k8 false (resMemCycles b) :=
  modifyMem_terminates _ _ _
@[simp] theorem setMem_terminates (k8 : Bool) (b : Fin 8) : Terminates k8 false (setMemCycles b) :=
  modifyMem_terminates _ _ _
@[simp] theorem call_terminates (k8 k16 : Bool) (n : Word) : Terminates k8 k16 (callCycles n) :=
  terminates_idle (terminates_idle (pushThenJump_terminates _ _ _ _ _ fun _ => ⟨rfl, rfl⟩))
@[simp] theorem callCond_terminates (k8 k16 : Bool) (cc : Cond) (n : Word) : Terminates k8 k16 (callCondCycles cc n) :=
  terminates_branch (terminates_idle (pushThenJump_terminates _ _ _ _ _ fun _ => ⟨rfl, rfl⟩))
@[simp] theorem rst_terminates (k8 k16 : Bool) (y : Fin 8) : Terminates k8 k16 (rstCycles y) :=
  terminates_idle (terminates_idle (pushThenJump_terminates _ _ _ _ _ fun _ => ⟨rfl, rfl⟩))
@[simp] theorem ret_terminates : Terminates false false retCycles :=
  terminates_idle (return_terminates _ fun _ => ⟨rfl, rfl⟩)
@[simp] theorem reti_terminates : Terminates false false retiCycles :=
  terminates_idle (return_terminates _ fun _ => ⟨rfl, rfl⟩)
@[simp] theorem retCond_terminates (cc : Cond) : Terminates false false (retCondCycles cc) :=
  terminates_idle (terminates_branch (return_terminates _ fun _ => ⟨rfl, rfl⟩))

/-- The length of an instruction says which operands it has. -/
theorem cyclesOf_terminates (i : Instr) : Terminates (i.length == 2) (i.length == 3) (cyclesOf i) := by
  cases i <;> simp [cyclesOf, Instr.length, encode]

/-! ### The number of machine cycles of each form -/

@[simp] theorem ldRegReg_count (dst src : Reg8) (s : State) : cycleCount (ldRegRegCycles dst src) s = 1 := rfl
@[simp] theorem ldRegImm_count (r : Reg8) (n : Byte) (s : State) : cycleCount (ldRegImmCycles r n) s = 1 := rfl
@[simp] theorem ldRegMem_count (r : Reg8) (s : State) : cycleCount (ldRegMemCycles r) s = 2 := rfl
@[simp] theorem ldMemReg_count (r : Reg8) (s : State) : cycleCount (ldMemRegCycles r) s = 2 := rfl
@[simp] theorem ldMemImm_count (n : Byte) (s : State) : cycleCount (ldMemImmCycles n) s = 2 := rfl
@[simp] theorem ldAPair_count (r : Reg16) (s : State) : cycleCount (ldAPairCycles r) s = 2 := rfl
@[simp] theorem ldPairA_count (r : Reg16) (s : State) : cycleCount (ldPairACycles r) s = 2 := rfl
@[simp] theorem ldAAbs_count (n : Word) (s : State) : cycleCount (ldAAbsCycles n) s = 2 := rfl
@[simp] theorem ldAbsA_count (n : Word) (s : State) : cycleCount (ldAbsACycles n) s = 2 := rfl
@[simp] theorem ldhAC_count (s : State) : cycleCount (ldhACCycles) s = 2 := rfl
@[simp] theorem ldhCA_count (s : State) : cycleCount (ldhCACycles) s = 2 := rfl
@[simp] theorem ldhAImm_count (n : Byte) (s : State) : cycleCount (ldhAImmCycles n) s = 2 := rfl
@[simp] theorem ldhImmA_count (n : Byte) (s : State) : cycleCount (ldhImmACycles n) s = 2 := rfl
@[simp] theorem ldAHlStep_count (d : Word) (s : State) : cycleCount (ldAHlStepCycles d) s = 2 := rfl
@[simp] theorem ldHlStepA_count (d : Word) (s : State) : cycleCount (ldHlStepACycles d) s = 2 := rfl
@[simp] theorem ldPairImm_count (r : Reg16) (n : Word) (s : State) : cycleCount (ldPairImmCycles r n) s = 1 := rfl
@[simp] theorem ldSpHl_count (s : State) : cycleCount (ldSpHlCycles) s = 2 := rfl
@[simp] theorem ldHlSp_count (e : Int) (s : State) : cycleCount (ldHlSpCycles e) s = 2 := rfl
@[simp] theorem aluReg_count (op : AluOp) (r : Reg8) (s : State) : cycleCount (aluRegCycles op r) s = 1 := rfl
@[simp] theorem aluMem_count (op : AluOp) (s : State) : cycleCount (aluMemCycles op) s = 2 := rfl
@[simp] theorem aluImm_count (op : AluOp) (n : Byte) (s : State) : cycleCount (aluImmCycles op n) s = 1 := rfl
@[simp] theorem incReg_count (r : Reg8) (s : State) : cycleCount (incRegCycles r) s = 1 := rfl
@[simp] theorem decReg_count (r : Reg8) (s : State) : cycleCount (decRegCycles r) s = 1 := rfl
@[simp] theorem daa_count (s : State) : cycleCount (daaCycles) s = 1 := rfl
@[simp] theorem cpl_count (s : State) : cycleCount (cplCycles) s = 1 := rfl
@[simp] theorem scf_count (s : State) : cycleCount (scfCycles) s = 1 := rfl
@[simp] theorem ccf_count (s : State) : cycleCount (ccfCycles) s = 1 := rfl
@[simp] theorem addHl_count (r : Reg16) (s : State) : cycleCount (addHlCycles r) s = 2 := rfl
@[simp] theorem incPair_count (r : Reg16) (s : State) : cycleCount (incPairCycles r) s = 2 := rfl
@[simp] theorem decPair_count (r : Reg16) (s : State) : cycleCount (decPairCycles r) s = 2 := rfl
@[simp] theorem addSp_count (e : Int) (s : State) : cycleCount (addSpCycles e) s = 3 := rfl
@[simp] theorem accRotate_count (op : ShiftOp) (s : State) : cycleCount (accRotateCycles op) s = 1 := rfl
@[simp] theorem shiftReg_count (op : ShiftOp) (r : Reg8) (s : State) : cycleCount (shiftRegCycles op r) s = 1 := rfl
@[simp] theorem bitReg_count (b : Fin 8) (r : Reg8) (s : State) : cycleCount (bitRegCycles b r) s = 1 := rfl
@[simp] theorem bitMem_count (b : Fin 8) (s : State) : cycleCount (bitMemCycles b) s = 2 := rfl
@[simp] theorem resReg_count (b : Fin 8) (r : Reg8) (s : State) : cycleCount (resRegCycles b r) s = 1 := rfl
@[simp] theorem setReg_count (b : Fin 8) (r : Reg8) (s : State) : cycleCount (setRegCycles b r) s = 1 := rfl
@[simp] theorem jp_count (n : Word) (s : State) : cycleCount (jpCycles n) s = 2 := rfl
@[simp] theorem jpHl_count (s : State) : cycleCount (jpHlCycles) s = 1 := rfl
@[simp] theorem jr_count (e : Int) (s : State) : cycleCount (jrCycles e) s = 2 := rfl
@[simp] theorem nop_count (s : State) : cycleCount (nopCycles) s = 1 := rfl
@[simp] theorem halt_count (s : State) : cycleCount (haltCycles) s = 1 := rfl
@[simp] theorem di_count (s : State) : cycleCount (diCycles) s = 1 := rfl
@[simp] theorem ei_count (s : State) : cycleCount (eiCycles) s = 1 := rfl
@[simp] theorem undefined_count (op : Byte) (s : State) : cycleCount (undefinedCycles op) s = 1 := rfl
@[simp] theorem stop_count (s : State) : cycleCount (stopCycles) s = 1 := rfl
@[simp] theorem ldAbsSp_count (n : Word) (s : State) : cycleCount (ldAbsSpCycles n) s = 3 := rfl
@[simp] theorem incMem_count (s : State) : cycleCount incMemCycles s = 3 := rfl
@[simp] theorem decMem_count (s : State) : cycleCount decMemCycles s = 3 := rfl
@[simp] theorem shiftMem_count (op : ShiftOp) (s : State) : cycleCount (shiftMemCycles op) s = 3 := rfl
@[simp] theorem resMem_count (b : Fin 8) (s : State) : cycleCount (resMemCycles b) s = 3 := rfl
@[simp] theorem setMem_count (b : Fin 8) (s : State) : cycleCount (setMemCycles b) s = 3 := rfl
@[simp] theorem push_count (r : Reg16s) (s : State) : cycleCount (pushCycles r) s = 4 := rfl
@[simp] theorem pop_count (r : Reg16s) (s : State) : cycleCount (popCycles r) s = 3 := rfl
@[simp] theorem call_count (n : Word) (s : State) : cycleCount (callCycles n) s = 4 := rfl
@[simp] theorem rst_count (y : Fin 8) (s : State) : cycleCount (rstCycles y) s = 4 := rfl
@[simp] theorem ret_count (s : State) : cycleCount retCycles s = 4 := rfl
@[simp] theorem reti_count (s : State) : cycleCount retiCycles s = 4 := rfl
@[simp] theorem jpCond_count (cc : Cond) (n : Word) (s : State) :
    cycleCount (jpCondCycles cc n) s = if condHolds cc s.cpu.f then 2 else 1 := by
  rw [jpCondCycles, cycleCount_branch]
  rfl
@[simp] theorem jrCond_count (cc : Cond) (e : Int) (s : State) :
    cycleCount (jrCondCycles cc e) s = if condHolds cc s.cpu.f then 2 else 1 := by
  rw [jrCondCycles, cycleCount_branch]
  rfl
@[simp] theorem callCond_count (cc : Cond) (n : Word) (s : State) :
    cycleCount (callCondCycles cc n) s = if condHolds cc s.cpu.f then 4 else 1 := by
  rw [callCondCycles, List.cons_append, cycleCount_branch]
  rfl
@[simp] theorem retCond_count (cc : Cond) (s : State) :
    cycleCount (retCondCycles cc) s = if condHolds cc s.cpu.f then 5 else 2 := by
  rw [retCondCycles, List.cons_append, cycleCount_idle, List.cons_append, cycleCount_branch, between_cpu]
  by_cases h : condHolds cc s.cpu.f <;> simp [h, returnCycles]

/-- The number of bytes an instruction reads after its opcode byte: none for STOP, whose second byte is skipped. -/
def Instr.reads : Instr → Nat
  | .stop => 0
  | i => i.length - 1

/-- The schedule of an instruction takes the number of machine cycles its row of the opcode table gives. -/
theorem cycleCount_cyclesOf (i : Instr) (s : State) :
    Instr.reads i + cycleCount (cyclesOf i) s = machineCycles i s.cpu.f := by
  cases i
  case jp_nz_nn | jp_z_nn | jp_nc_nn | jp_c_nn =>
    simp only [cyclesOf, jpCond_count, machineCycles, tableCycles]
    split <;> rfl
  case jr_nz_e | jr_z_e | jr_nc_e | jr_c_e =>
    simp only [cyclesOf, jrCond_count, machineCycles, tableCycles]
    split <;> rfl
  case call_nz_nn | call_z_nn | call_nc_nn | call_c_nn =>
    simp only [cyclesOf, callCond_count, machineCycles, tableCycles]
    split <;> rfl
  case ret_nz | ret_z | ret_nc | ret_c =>
    simp only [cyclesOf, retCond_count, machineCycles, tableCycles]
    split <;> rfl
  all_goals rfl

end Sys2Proof.Machine
end

