-- ==== Sys2Proof/Laws/Refine.lean ====
section
/-! SUPPORT. The step against the one-cycle step: a run of the cycles of an instruction or a dispatch is that number of
single machine cycles (00_scope.md R8). -/

namespace Sys2Proof.Machine

/-- One machine cycle whose CPU part goes on. -/
theorem machineCycle_more {s t : State} (running : s.cpu.fatal = none) (h : cpuStep s = t.nextStage)
    (going : t.cpu.fatal = none) : machineCycle s = between t := by
  have e : t.nextStage.cpu.fatal = none := going
  have ticked : (deviceTick t.nextStage).cpu.fatal = none := by rw [(deviceTick_devicePart _).cpu]; exact e
  have one : systemStep s = deviceTick t.nextStage := by simp [systemStep, running, h, going]
  simp [machineCycle, one, ticked, between, endCycle]

/-- One machine cycle whose CPU part retires or stops. -/
theorem machineCycle_done {s t : State} (running : s.cpu.fatal = none) (h : cpuStep s = t) :
    machineCycle s = finishCycle t := by
  cases e : t.cpu.fatal with
  | none =>
    have ticked : (deviceTick t).cpu.fatal = none := by rw [(deviceTick_devicePart _).cpu]; exact e
    have one : systemStep s = deviceTick t := by simp [systemStep, running, h, e]
    simp [machineCycle, one, ticked, finishCycle, e, endCycle]
  | some d =>
    have one : systemStep s = t := by simp [systemStep, running, h, e]
    simp [machineCycle, one, finishCycle, e]

/-- What a property of states must give for the cycles of a plan to be run one by one: from stage `n + 1` on a state with
the property runs the plan's cycle, and a cycle that goes on keeps the property. -/
structure Follows (plan : List Cycle) (n : Nat) (P : State → Prop) : Prop where
  runs : ∀ s, P s → n < s.cpu.stage → cpuStep s = (nthCycle plan (s.cpu.stage - n) s).state
  keeps : ∀ c ∈ plan, ∀ s t, P s → s.cpu.fatal = none → c s = .more t →
    P (between t) ∧ t.cpu.stage = s.cpu.stage ∧ t.cpu.fatal = none

/-- The rest of a plan from cycle `k` on, whose CPU part begins in the state `s₁` of the machine cycle begun in `s`. -/
theorem machineCyclesFrom_plan {plan : List Cycle} {n : Nat} {P : State → Prop} (h : Follows plan n P)
    (terminal : ∀ s, ∀ c ∈ plan.getLast?, ∃ t, c s = .done t) (k : Nat) (s s₁ : State) (rest : List Cycle)
    (hk : plan.drop k = rest) (some_left : rest ≠ []) (running : s.cpu.fatal = none)
    (first : cpuStep s = (nthCycle plan k s₁).state) (hP : P s₁) (running₁ : s₁.cpu.fatal = none)
    (stage : s₁.cpu.stage = n + k) :
    machineCyclesFrom (cycleCount rest s₁) s = finishCycle (runCycles rest s₁) := by
  induction rest generalizing k s s₁ with
  | nil => exact absurd rfl some_left
  | cons c cs ih =>
    have hc : plan[k]? = some c := by
      rw [← List.head?_drop, hk]
      rfl
    have hcs : plan.drop (k + 1) = cs := by rw [← List.tail_drop, hk]; rfl
    have mem : c ∈ plan := List.mem_of_getElem? hc
    have e : nthCycle plan k s₁ = c s₁ := by simp only [nthCycle, hc]
    rw [e] at first
    rw [runCycles_cons]
    cases hcase : c s₁ with
    | done t =>
      rw [hcase] at first
      simp only [cycleCount, hcase, machineCyclesFrom]
      exact machineCycle_done running first
    | more t =>
      rw [hcase] at first
      obtain ⟨hP', hs, hf⟩ := h.keeps c mem s₁ t hP running₁ hcase
      have stage' : (between t).cpu.stage = n + (k + 1) := by rw [between_cpu]; simp [hs, stage]; omega
      have running' : (between t).cpu.fatal = none := by rw [between_cpu]; exact hf
      have left : cs ≠ [] := by
        rintro rfl
        have last : plan.getLast? = some c := by
          have hl : plan.length = k + 1 := by
            have := congrArg List.length hk
            have := congrArg List.length hcs
            simp at *
            omega
          rw [List.getLast?_eq_getElem?, hl]
          exact hc
        obtain ⟨t', ht'⟩ := terminal s₁ c (by rw [last]; rfl)
        rw [hcase] at ht'
        cases ht'
      simp only [cycleCount, hcase, Nat.add_comm 1, machineCyclesFrom]
      rw [machineCycle_more running first hf]
      exact ih (k + 1) (between t) (between t) hcs left running'
        (by rw [h.runs _ hP' (by omega), stage']; congr 2; omega) hP' running' stage'

/-! ### A dispatch -/

theorem dispatch_follows (k : Source) : Follows (dispatchCycles k) 0 fun s => s.cpu.ir = .int k where
  runs := fun s ir stage => by
    have ne : s.cpu.stage ≠ 0 := by omega
    simp only [cpuStep, ne, ne_eq, not_false_eq_true, if_true, runStage, ir, Nat.sub_zero]
  keeps := fun c hc s t ir running e => by
    simp only [dispatchCycles, List.mem_cons, List.not_mem_nil, or_false] at hc
    rcases hc with rfl | rfl | rfl | rfl | rfl <;> cases e <;> simp [ir, running, acceptInterrupt]

/-- A whole dispatch is five machine cycles. -/
theorem dispatch_machineCycles {s s' : State} {k : Source} (running : s.cpu.fatal = none) (stage : s.cpu.stage = 0)
    (h : boundary s = .dispatch k s') : dispatchStep k s' = .next (machineCyclesFrom 5 s) := by
  have hs' := (boundary_dispatch h).1
  have first : cpuStep s = (nthCycle (dispatchCycles k) 0 (latchDispatch k s')).state := by
    simp only [cpuStep, stage, ne_eq, not_true_eq_false, if_false, h, runStage, latchDispatch]
    rw [show s'.cpu.stage = 0 by rw [hs', wakeIfHalted_stage, stage]]
  have all := machineCyclesFrom_plan (dispatch_follows k) (fun _ c hc => by cases hc; exact ⟨_, rfl⟩) 0 s
    (latchDispatch k s') (dispatchCycles k) rfl (by simp [dispatchCycles]) running first rfl
    (by show s'.cpu.fatal = none; rw [hs', wakeIfHalted_fatal, running])
    (by show s'.cpu.stage = 0 + 0; rw [hs', wakeIfHalted_stage, stage])
  rw [dispatchStep, execute, finish, ← all]
  rfl

/-! ### An instruction -/

/-- The operands an instruction of a row of the first-byte map has. -/
def RowShape : OpcodeRow → Prop
  | .one i => Instr.reads i = 0
  | .skip i => Instr.reads i = 0
  | .imm8 f => ∀ n, (f n).length = 2 ∧ Instr.reads (f n) = 1
  | .disp f => ∀ e, (f e).length = 2 ∧ Instr.reads (f e) = 1
  | .imm16 f => ∀ nn, (f nn).length = 3 ∧ Instr.reads (f nn) = 2
  | .prefixed => True

theorem opcodeRow0_shape : ∀ row ∈ opcodeRow0, RowShape row := by
  unfold opcodeRow0
  repeat' first | exact List.forall_mem_nil _ | refine List.forall_mem_cons.2 ⟨?_, ?_⟩ | exact fun _ => ⟨rfl, rfl⟩ | rfl
theorem opcodeRow1_shape : ∀ row ∈ opcodeRow1, RowShape row := by
  unfold opcodeRow1
  repeat' first | exact List.forall_mem_nil _ | refine List.forall_mem_cons.2 ⟨?_, ?_⟩ | exact fun _ => ⟨rfl, rfl⟩ | rfl
theorem opcodeRow2_shape : ∀ row ∈ opcodeRow2, RowShape row := by
  unfold opcodeRow2
  repeat' first | exact List.forall_mem_nil _ | refine List.forall_mem_cons.2 ⟨?_, ?_⟩ | exact fun _ => ⟨rfl, rfl⟩ | rfl
theorem opcodeRow3_shape : ∀ row ∈ opcodeRow3, RowShape row := by
  unfold opcodeRow3
  repeat' first | exact List.forall_mem_nil _ | refine List.forall_mem_cons.2 ⟨?_, ?_⟩ | exact fun _ => ⟨rfl, rfl⟩ | rfl
theorem opcodeRow4_shape : ∀ row ∈ opcodeRow4, RowShape row := by
  unfold opcodeRow4
  repeat' first | exact List.forall_mem_nil _ | refine List.forall_mem_cons.2 ⟨?_, ?_⟩ | exact fun _ => ⟨rfl, rfl⟩ | rfl
theorem opcodeRow5_shape : ∀ row ∈ opcodeRow5, RowShape row := by
  unfold opcodeRow5
  repeat' first | exact List.forall_mem_nil _ | refine List.forall_mem_cons.2 ⟨?_, ?_⟩ | exact fun _ => ⟨rfl, rfl⟩ | rfl
theorem opcodeRow6_shape : ∀ row ∈ opcodeRow6, RowShape row := by
  unfold opcodeRow6
  repeat' first | exact List.forall_mem_nil _ | refine List.forall_mem_cons.2 ⟨?_, ?_⟩ | exact fun _ => ⟨rfl, rfl⟩ | rfl
theorem opcodeRow7_shape : ∀ row ∈ opcodeRow7, RowShape row := by
  unfold opcodeRow7
  repeat' first | exact List.forall_mem_nil _ | refine List.forall_mem_cons.2 ⟨?_, ?_⟩ | exact fun _ => ⟨rfl, rfl⟩ | rfl
theorem opcodeRow8_shape : ∀ row ∈ opcodeRow8, RowShape row := by
  unfold opcodeRow8
  repeat' first | exact List.forall_mem_nil _ | refine List.forall_mem_cons.2 ⟨?_, ?_⟩ | exact fun _ => ⟨rfl, rfl⟩ | rfl
theorem opcodeRow9_shape : ∀ row ∈ opcodeRow9, RowShape row := by
  unfold opcodeRow9
  repeat' first | exact List.forall_mem_nil _ | refine List.forall_mem_cons.2 ⟨?_, ?_⟩ | exact fun _ => ⟨rfl, rfl⟩ | rfl
theorem opcodeRowA_shape : ∀ row ∈ opcodeRowA, RowShape row := by
  unfold opcodeRowA
  repeat' first | exact List.forall_mem_nil _ | refine List.forall_mem_cons.2 ⟨?_, ?_⟩ | exact fun _ => ⟨rfl, rfl⟩ | rfl
theorem opcodeRowB_shape : ∀ row ∈ opcodeRowB, RowShape row := by
  unfold opcodeRowB
  repeat' first | exact List.forall_mem_nil _ | refine List.forall_mem_cons.2 ⟨?_, ?_⟩ | exact fun _ => ⟨rfl, rfl⟩ | rfl
theorem opcodeRowC_shape : ∀ row ∈ opcodeRowC, RowShape row := by
  unfold opcodeRowC
  repeat' first | exact List.forall_mem_nil _ | refine List.forall_mem_cons.2 ⟨?_, ?_⟩ | exact fun _ => ⟨rfl, rfl⟩ | rfl | trivial
theorem opcodeRowD_shape : ∀ row ∈ opcodeRowD, RowShape row := by
  unfold opcodeRowD
  repeat' first | exact List.forall_mem_nil _ | refine List.forall_mem_cons.2 ⟨?_, ?_⟩ | exact fun _ => ⟨rfl, rfl⟩ | rfl
theorem opcodeRowE_shape : ∀ row ∈ opcodeRowE, RowShape row := by
  unfold opcodeRowE
  repeat' first | exact List.forall_mem_nil _ | refine List.forall_mem_cons.2 ⟨?_, ?_⟩ | exact fun _ => ⟨rfl, rfl⟩ | rfl
theorem opcodeRowF_shape : ∀ row ∈ opcodeRowF, RowShape row := by
  unfold opcodeRowF
  repeat' first | exact List.forall_mem_nil _ | refine List.forall_mem_cons.2 ⟨?_, ?_⟩ | exact fun _ => ⟨rfl, rfl⟩ | rfl

theorem opcodeMap_shape : ∀ line ∈ opcodeMap, ∀ row ∈ line, RowShape row := by
  simp only [opcodeMap, List.forall_mem_cons, List.not_mem_nil, false_implies, implies_true, and_true]
  exact ⟨opcodeRow0_shape, opcodeRow1_shape, opcodeRow2_shape, opcodeRow3_shape, opcodeRow4_shape, opcodeRow5_shape,
    opcodeRow6_shape, opcodeRow7_shape, opcodeRow8_shape, opcodeRow9_shape, opcodeRowA_shape, opcodeRowB_shape,
    opcodeRowC_shape, opcodeRowD_shape, opcodeRowE_shape, opcodeRowF_shape⟩

theorem opcodeRowOf_shape (op : Byte) : RowShape (opcodeRowOf op) :=
  opcodeMap_shape _ (List.getElem_mem _) _ (List.getElem_mem _)

theorem subMap_shape : ∀ line ∈ subMap, ∀ i ∈ line, i.length = 2 ∧ Instr.reads i = 1 := by decide

theorem subInstr_shape (sub : Byte) : (subInstr sub).length = 2 ∧ Instr.reads (subInstr sub) = 1 :=
  subMap_shape _ (List.getElem_mem _) _ (List.getElem_mem _)

/-- The length of the latched instruction says which of `d8` and `d16` it is read from. -/
theorem instrOf_shape (op d8 : Byte) (d16 : Word) :
    (operandReads op = 1 → (instrOf op d8 d16).length = 2) ∧ (operandReads op = 2 → (instrOf op d8 d16).length = 3) ∧
      Instr.reads (instrOf op d8 d16) = operandReads op := by
  have shape := opcodeRowOf_shape op
  unfold operandReads instrOf
  cases h : opcodeRowOf op with
  | one i => rw [h] at shape; exact ⟨nofun, nofun, shape⟩
  | skip i => rw [h] at shape; exact ⟨nofun, nofun, shape⟩
  | imm8 f => rw [h] at shape; exact ⟨fun _ => (shape _).1, nofun, (shape _).2⟩
  | disp f => rw [h] at shape; exact ⟨fun _ => (shape _).1, nofun, (shape _).2⟩
  | imm16 f => rw [h] at shape; exact ⟨nofun, fun _ => (shape _).1, (shape _).2⟩
  | prefixed => exact ⟨fun _ => (subInstr_shape d8).1, nofun, (subInstr_shape d8).2⟩

/-- A cycle of a plan that terminates goes on as its operands need it. -/
theorem goesOn_of_terminates {k8 k16 : Bool} {cs : List Cycle} (h : Terminates k8 k16 cs) : ∀ c ∈ cs, GoesOn k8 k16 c := by
  induction cs with
  | nil => cases h
  | cons c cs ih =>
    cases cs with
    | nil => intro d hd; rw [List.mem_singleton.1 hd]; exact h.1
    | cons c' cs =>
      intro d hd
      rcases List.mem_cons.1 hd with rfl | hd
      · exact h.1
      · exact ih h.2 d hd

theorem terminal_of_terminates {k8 k16 : Bool} {cs : List Cycle} (h : Terminates k8 k16 cs) (s : State) :
    ∀ c ∈ cs.getLast?, ∃ t, c s = .done t := by
  induction cs with
  | nil => cases h
  | cons c cs ih =>
    cases cs with
    | nil => intro d hd; cases hd; exact h.2 s
    | cons c' cs => exact ih h.2

theorem ne_nil_of_terminates {k8 k16 : Bool} {cs : List Cycle} (h : Terminates k8 k16 cs) : cs ≠ [] := by
  rintro rfl
  cases h

/-- The cycles of an instruction follow its plan: the latched instruction stays what it is. -/
theorem instr_follows (op : Byte) (i : Instr) :
    Follows (cyclesOf i) (operandReads op) fun s => s.cpu.ir = .opcode op ∧ s.latched = i where
  runs := fun s ⟨ir, latched⟩ stage => by
    have ne : s.cpu.stage ≠ 0 := by omega
    have past : ¬s.cpu.stage ≤ operandReads op := by omega
    have past' : ¬s.cpu.stage < operandReads op := by omega
    simp only [cpuStep, ne, ne_eq, not_false_eq_true, if_true, runStage, ir, runOpcode, if_false, past, past', latched]
  keeps := fun c hc s t ⟨ir, latched⟩ running e => by
    have g := goesOn_of_terminates (cyclesOf_terminates i) c hc s running
    rw [e] at g
    obtain ⟨g1, g2, g3, g4, g5⟩ := g
    have l : instrOf op s.cpu.d8 s.cpu.d16 = i := by rw [← latched, State.latched, ir]; rfl
    have shape := instrOf_shape op s.cpu.d8 s.cpu.d16
    rw [l] at shape
    refine ⟨⟨by rw [between_cpu]; exact g1.trans ir, ?_⟩, g2, g3⟩
    rw [State.latched, between_cpu]
    show instrOf t.cpu.ir.byte t.cpu.d8 t.cpu.d16 = i
    rw [g1, ir, ← l]
    exact instrOf_reads op _ _ _ _ (fun r => g4 (by rw [shape.1 r]; rfl)) (fun r => g5 (by rw [shape.2.1 r]; rfl))

/-- The state a fetch gives the instruction. -/
theorem fetched_ir (s : State) : (fetched s).cpu.ir = .opcode (memRead s s.cpu.pc) := by
  have ir : (fetchOpcode s).cpu.ir = .opcode (memRead s s.cpu.pc) := rfl
  unfold fetched
  rcases operandReads (memRead s s.cpu.pc) with _ | _ | n <;>
    simp [readOperands, readOperand1, readOperand2, State.setD8, State.setD16, ir]

theorem operandReads_le (op : Byte) : operandReads op ≤ 2 := by
  unfold operandReads
  cases opcodeRowOf op <;> simp

theorem fetched_fatal (s : State) : (fetched s).cpu.fatal = s.cpu.fatal := by
  unfold fetched
  rcases operandReads (memRead s s.cpu.pc) with _ | _ | n <;>
    simp [readOperands, readOperand1, readOperand2, State.setD8, State.setD16, fetchOpcode]

theorem fetched_stage (s : State) : (fetched s).cpu.stage = s.cpu.stage + operandReads (memRead s s.cpu.pc) := by
  have le := operandReads_le (memRead s s.cpu.pc)
  unfold fetched
  rcases h : operandReads (memRead s s.cpu.pc) with _ | _ | _ | n
  · rfl
  · simp [readOperands, readOperand1, State.setD8, fetchOpcode]
  · simp [readOperands, readOperand1, readOperand2, State.setD8, State.setD16, fetchOpcode]
  · omega

theorem cpuStep_midway {s : State} {op : Byte} (ir : s.cpu.ir = .opcode op) (ne : s.cpu.stage ≠ 0) :
    cpuStep s = (runOpcode op s).state := by
  simp only [cpuStep, ne, ne_eq, not_false_eq_true, if_true, runStage, ir]

/-- A cycle that reads an operand byte with another one to come. -/
theorem runOpcode_reads {s : State} {op : Byte} (ne : s.cpu.stage ≠ 0) (lt : s.cpu.stage < operandReads op) :
    runOpcode op s = .more (readOperand s.cpu.stage s) := by
  simp only [runOpcode, ne, if_false, Nat.le_of_lt lt, if_true, lt]

/-- The cycle that reads the last operand byte. -/
theorem runOpcode_readsLast {s : State} {op : Byte} (ne : s.cpu.stage ≠ 0) (e : s.cpu.stage = operandReads op) :
    runOpcode op s =
      nthCycle (cyclesOf (readOperand s.cpu.stage s).latched) 0 (readOperand s.cpu.stage s) := by
  rw [e] at ne
  simp only [runOpcode, ne, if_false, e, Nat.le_refl, if_true, Nat.lt_irrefl, Nat.sub_self]

/-- The whole of an instruction, its fetch and its own cycles, is the machine cycles of its row. -/
theorem instr_machineCycles {s s' : State} (running : s.cpu.fatal = none) (stage : s.cpu.stage = 0)
    (h : boundary s = .fetch s') :
    machineCyclesFrom (operandReads (memRead s' s'.cpu.pc) + cycleCount (cyclesOf (fetched s').latched) (fetched s')) s =
      finishCycle (runCycles (cyclesOf (fetched s').latched) (fetched s')) := by
  have running' : s'.cpu.fatal = none := (boundary_fetch_fatal h).trans running
  have stage' : s'.cpu.stage = 0 := (boundary_fetch_stage h).trans stage
  generalize hop : memRead s' s'.cpu.pc = op
  generalize hi : (fetched s').latched = i
  have ir : (fetched s').cpu.ir = .opcode op := by rw [fetched_ir, hop]
  have fstage : (fetched s').cpu.stage = operandReads op + 0 := by rw [fetched_stage, stage', hop]; omega
  have plan := fun t (ht : t.cpu.fatal = none) (first : cpuStep t = (nthCycle (cyclesOf i) 0 (fetched s')).state) =>
    machineCyclesFrom_plan (instr_follows op i) (terminal_of_terminates (cyclesOf_terminates i)) 0 t (fetched s')
      (cyclesOf i) rfl (ne_nil_of_terminates (cyclesOf_terminates i)) ht first ⟨ir, hi⟩
      ((fetched_fatal s').trans running') fstage
  have step1 : cpuStep s = (runOpcode op (fetchOpcode s')).state := by
    simp only [cpuStep, stage, ne_eq, not_true_eq_false, if_false, h, runStage, fetchOpcode, hop]
  have F : (fetchOpcode s').cpu.stage = 0 := stage'
  have le := operandReads_le op
  rcases hn : operandReads op with _ | _ | _ | n
  · have e : fetched s' = fetchOpcode s' := by unfold fetched; rw [hop, hn]; rfl
    rw [Nat.zero_add]
    refine plan s running ?_
    rw [step1, e]
    rw [e] at hi
    simp only [runOpcode, F, hn, if_true, Nat.lt_irrefl, if_false, Nat.sub_zero, hi]
  · have e : fetched s' = readOperand1 (between (fetchOpcode s')) := by unfold fetched; rw [hop, hn]; rfl
    have c1 : machineCycle s = between (fetchOpcode s') := by
      refine machineCycle_more running ?_ running'
      rw [step1]
      simp [runOpcode, F, hn, Phase.state]
    rw [Nat.add_comm, machineCyclesFrom, c1]
    refine plan _ (by rw [between_cpu]; exact running') ?_
    rw [e]
    rw [e] at hi
    have st : (between (fetchOpcode s')).cpu.stage = 1 := by rw [between_cpu]; exact congrArg (· + 1) stage'
    have bir : (between (fetchOpcode s')).cpu.ir = .opcode op := by rw [between_cpu, ← hop]; rfl
    rw [cpuStep_midway bir (by omega), runOpcode_readsLast (by omega) (by omega), st]
    show (nthCycle (cyclesOf (readOperand1 _).latched) 0 (readOperand1 _)).state = _
    rw [hi]
  · have e : fetched s' = readOperand2 (between (readOperand1 (between (fetchOpcode s')))) := by
      unfold fetched; rw [hop, hn]; rfl
    have c1 : machineCycle s = between (fetchOpcode s') := by
      refine machineCycle_more running ?_ running'
      rw [step1]
      simp [runOpcode, F, hn, Phase.state]
    have st : (between (fetchOpcode s')).cpu.stage = 1 := by rw [between_cpu]; exact congrArg (· + 1) stage'
    have bir : (between (fetchOpcode s')).cpu.ir = .opcode op := by rw [between_cpu, ← hop]; rfl
    have bf : (between (fetchOpcode s')).cpu.fatal = none := by rw [between_cpu]; exact running'
    have c2 : machineCycle (between (fetchOpcode s')) = between (readOperand1 (between (fetchOpcode s'))) := by
      refine machineCycle_more bf ?_ bf
      rw [cpuStep_midway bir (by omega), runOpcode_reads (by omega) (by omega), st]
      rfl
    rw [Nat.add_comm, machineCyclesFrom, c1, machineCyclesFrom, c2]
    refine plan _ (by rw [between_cpu]; exact bf) ?_
    rw [e]
    rw [e] at hi
    have st2 : (between (readOperand1 (between (fetchOpcode s')))).cpu.stage = 2 := by
      rw [between_cpu]; exact congrArg (· + 1) st
    have bir2 : (between (readOperand1 (between (fetchOpcode s')))).cpu.ir = .opcode op := by rw [between_cpu]; exact bir
    rw [cpuStep_midway bir2 (by omega), runOpcode_readsLast (by omega) (by omega), st2]
    show (nthCycle (cyclesOf (readOperand2 _).latched) 0 (readOperand2 _)).state = _
    rw [hi]
  · omega

end Sys2Proof.Machine
end

