-- ==== Sys2Proof/Laws/Stores.lean ====
section
/-! SUPPORT. What a bus write leaves of byte storage and of the registers of the bus, region by region. -/

namespace Sys2Proof.Machine

/-- The region of an address names one I/O register. -/
theorem ioRegOf_of_region {a : Word} {r : IoReg} (h : regionOf a = .io r) : ioRegOf a.toNat = r := by
  obtain h' | h' | h' | h' | h' | h' | h' | h' | h' := regionOf_cases a <;> simp_all

/-- A register of the I/O table has the address the table gives it. -/
theorem address_of_ioReg {a : Word} {r : IoReg} {n : Nat} (h : regionOf a = .io r)
    (hr : ∀ row ∈ ioTable, row.2 = r → row.1 = n) (table : r ≠ .none ∧ r ≠ .sound) : a.toNat = n := by
  have e := ioRegOf_of_region h
  unfold ioRegOf at e
  split at e
  · exact absurd e.symm table.2
  · split at e
    · rename_i row found
      have here : row.1 = a.toNat := by simpa using List.find?_some found
      rw [← here]
      exact hr row (List.mem_of_find?_eq_some found) e
    · exact absurd e.symm table.1

theorem address_of_dma {a : Word} (h : regionOf a = .io .dma) : a = 0xFF46 :=
  BitVec.eq_of_toNat_eq (address_of_ioReg (n := 0xFF46) h (by decide) (by decide))

theorem address_of_boot {a : Word} (h : regionOf a = .io .boot) : a = 0xFF50 :=
  BitVec.eq_of_toNat_eq (address_of_ioReg (n := 0xFF50) h (by decide) (by decide))

/-- Storage after a write of the DMA register: the 160 bytes stored, for a value at most 0xDF. -/
theorem dmaWrite_mem (s : State) (v : Byte) (hv : v.toNat ≤ 0xDF) :
    (dmaWrite s v).mem = s.mem.writeAll 0xFE00 (dmaSource { s with bus := { s.bus with dma := v } } v) := by
  simp only [dmaWrite, if_pos hv]

theorem dmaWrite_mem_high (s : State) (v : Byte) (hv : 0xDF < v.toNat) : (dmaWrite s v).mem = s.mem := by
  simp only [dmaWrite, if_neg (Nat.not_le.2 hv)]

/-- An OAM DMA writes nothing outside OAM. -/
theorem dmaWrite_read_outside (s : State) (v : Byte) (k : Nat) (h : k < 0xFE00 ∨ 0xFE9F < k) :
    (dmaWrite s v).mem.read k = s.mem.read k := by
  by_cases hv : v.toNat ≤ 0xDF
  · rw [dmaWrite_mem s v hv, Memory.read_writeAll_outside]
    rw [dmaSource_length]
    omega
  · rw [dmaWrite_mem_high s v (by omega)]

/-- The reads of an OAM DMA come from below 0xE000, where the DMA register is not. -/
theorem memRead_below_dma (s : State) (v : Byte) (a : Word) (h : a.toNat ≤ 0xDFFF) :
    memRead { s with bus := { s.bus with dma := v } } a = memRead s a := by
  unfold memRead
  obtain h' | h' | h' | h' | h' | h' | h' | h' | h' := regionOf_cases a <;> 
    first | omega | (rw [h'.2.2] <;> rfl) | rw [h'.2]

/-- Byte `i` of an OAM DMA of a value at most 0xDF. -/
theorem dmaWrite_read_inside (s : State) (v : Byte) (hv : v.toNat ≤ 0xDF) (i : Nat) (hi : i < 160) :
    (dmaWrite s v).mem.read (0xFE00 + i) = memRead s (BitVec.ofNat 16 (256 * v.toNat + i)) := by
  rw [dmaWrite_mem s v hv, Memory.read_writeAll_inside _ _ _ _ (by rw [dmaSource_length]; exact hi)]
  simp only [dmaSource, List.getElem_map, List.getElem_range]
  have address : joinBytes v 0x00 + BitVec.ofNat 16 i = BitVec.ofNat 16 (256 * v.toNat + i) := by
    apply BitVec.eq_of_toNat_eq
    simp [joinBytes_toNat, Nat.mul_comm]
  rw [address, memRead_below_dma]
  have := v.isLt
  simp
  omega

end Sys2Proof.Machine
end

