-- ==== Sys2Proof/Tests/Slice0.lean ====
section
/-! SUPPORT. The model's own tests: ill-formed terms refused, words written out from the spec's encodings, one step on a
small state for vectors of 95_test_vectors.md (expected values from the spec's tables), device values of
96_test_vectors_devices.md, and for every statement with hypotheses a concrete state and operands that meet them. -/

namespace Sys2Proof.Tests

open Sys2Proof.Machine Sys2Proof.Claims

/-- The common start of the vectors (95_test_vectors.md 2): bytes at 0xC000, SP 0xDFF0, and some differences. -/
def start (bytes : List Byte) (edit : Cpu → Cpu) (cells : List Host.Cell) : State :=
  { State.reset with
    cpu := edit { State.reset.cpu with pc := 0xC000, sp := 0xDFF0 }
    mem := cells.foldl (fun m cell => m.write cell.1 cell.2) (Memory.writeAll [] 0xC000 bytes) }

/-- The state one step later. -/
def after (s : State) : State :=
  match step s with
  | .next t => t
  | .fault _ => s
  | .refused _ => s

/-- PC, F and the machine cycles since reset, as the timer's counter shows them. -/
def ends (t : State) (pc : Word) (f : Byte) (cycles : Nat) : Bool :=
  t.cpu.pc == pc && t.cpu.f.toByte == f && t.timer.div.toNat == 4 * cycles

/-- The reset machine with a PPU register or mode edited. -/
def withPpu (edit : Ppu → Ppu) : State := { State.reset with ppu := edit Ppu.reset }

/-- The LCD on, in a mode, at a scanline and a dot. -/
def lcdOn (m : PpuMode) (ly : Byte) (dots : Nat) : State :=
  withPpu fun p => { p with lcdc := 0x80, mode := m, statMode := m.code, ly := ly, dots := dots }

/-- The reset machine with a timer. -/
def withTimer (div : Word) (tima tma : Byte) (tac : BitVec 3) : State :=
  { State.reset with timer := { div := div, tima := tima, tma := tma, tac := tac } }

/-- A CPU at 0xC000 with IME, `halted`, IE and IF. -/
def irqState (ime halted : Bool) (ie iflag : BitVec 5) : State :=
  { start [0x76, 0x3C] (fun c => { c with ime := ime, halted := halted }) [] with irq := { ie := ie, iflag := iflag } }

/-! ## Well-formedness: each check refuses an ill-formed term -/

theorem test_wf_refuses_displacement_128 : (Instr.jr_e 128).wellFormed = false := by decide
theorem test_wf_refuses_displacement_minus_129 : (Instr.ld_hl_sp_e (-129)).wellFormed = false := by decide
theorem test_wf_refuses_each_displacement_form :
    ([.jr_e 200, .jr_nz_e 200, .jr_z_e 200, .jr_nc_e 200, .jr_c_e 200, .add_sp_e 200, .ld_hl_sp_e 200] : List Instr).all
      (fun i => !i.wellFormed) = true := by decide
theorem test_wf_refuses_short_boot_image :
    romImagesFit (List.replicate 255 0) (List.replicate 32768 0) = false := by
  simp only [romImagesFit, bootRomSize, cartRomSize, List.length_replicate]
  decide
theorem test_wf_refuses_long_cart_image :
    romImagesFit (List.replicate 256 0) (List.replicate 32769 0) = false := by
  simp only [romImagesFit, bootRomSize, cartRomSize, List.length_replicate]
  decide

/-! ## Decoding: bytes written out from 30_encoding.md R117 to R123

`01 ddd sss`, `00 ddd 110 n`, `00 rr0 001 n n`, `10 ooo sss`, `11 ooo 110 n`, `00 rr1 001`, `000 cc 000 e` and so on. -/

theorem test_decode_ld_d_h : decode [0b01010100] = .ok (.ld_d_h, []) := by rfl
theorem test_decode_ld_mhl_n : decode [0b00110110, 0xAB] = .ok (.ld_mhl_n 0xAB, []) := by rfl
theorem test_decode_ld_de_nn : decode [0b00010001, 0x34, 0x12] = .ok (.ld_de_nn 0x1234, []) := by rfl
theorem test_decode_push_af : decode [0b11110101] = .ok (.push_af, []) := by rfl
theorem test_decode_sbc_a_mhl : decode [0b10011110] = .ok (.sbc_a_mhl, []) := by rfl
theorem test_decode_cp_n : decode [0b11111110, 0x2F] = .ok (.cp_n 0x2F, []) := by rfl
theorem test_decode_add_hl_sp : decode [0b00111001] = .ok (.add_hl_sp, []) := by rfl
theorem test_decode_jr_nc_minus_128 : decode [0b00110000, 0x80] = .ok (.jr_nc_e (-128), []) := by rfl
theorem test_decode_jp_c_nn : decode [0b11011010, 0xFF, 0x00] = .ok (.jp_c_nn 0x00FF, []) := by rfl
theorem test_decode_rst_28 : decode [0b11101111] = .ok (.rst_28, []) := by rfl
theorem test_decode_sra_mhl : decode [0xCB, 0b00101110] = .ok (.sra_mhl, []) := by rfl
theorem test_decode_res_5_c : decode [0xCB, 0b10101001] = .ok (.res_5_c, []) := by rfl
theorem test_decode_halt_is_no_load : decode [0b01110110] = .ok (.halt, []) := by rfl
theorem test_decode_undefined_fd : decode [0xFD] = .ok (.illegal_fd, []) := by rfl
theorem test_decode_refuses_missing_operand : (decode [0x3E]).isOk = false := by decide
theorem test_decode_table_word : decodeTableWord 16 0x7FCB = some .bit_7_a := by decide

/-! ## One step per vector: PC, F, machine cycles and what the vector changes -/

/-! ### 8-bit loads (95_test_vectors.md 2.1) -/

theorem test_v2_ld_a_05 :
    (let t := after (start [0x3E, 0x05] id [])
    ends t 0xC002 0x00 2 && t.cpu.a == 0x05) = true := by decide
theorem test_v3_ld_d_mhl :
    (let t := after (start [0x56] (fun c => { c with h := 0xC1, l := 0x00 }) [(0xC100, 0x9A)])
    ends t 0xC001 0x00 2 && t.cpu.d == 0x9A) = true := by decide
theorem test_v4_ld_mhl_e :
    (let t := after (start [0x73] (fun c => { c with h := 0xC1, l := 0x00, e := 0x77 }) [])
    ends t 0xC001 0x00 2 && memRead t 0xC100 == 0x77) = true := by decide
theorem test_v7_ld_mde_a :
    (let t := after (start [0x12] (fun c => { c with d := 0xC1, e := 0x24, a := 0x99 }) [])
    ends t 0xC001 0x00 2 && memRead t 0xC124 == 0x99) = true := by decide
theorem test_v8_ld_a_mc234 :
    (let t := after (start [0xFA, 0x34, 0xC2] id [(0xC234, 0x5A)])
    ends t 0xC003 0x00 4 && t.cpu.a == 0x5A) = true := by decide
theorem test_v9_ld_mc235_a :
    (let t := after (start [0xEA, 0x35, 0xC2] (fun c => { c with a := 0x3C }) [])
    ends t 0xC003 0x00 4 && memRead t 0xC235 == 0x3C) = true := by decide
theorem test_v11_ldh_mc_a :
    (let t := after (start [0xE2] (fun c => { c with c := 0x81, a := 0x67 }) [])
    ends t 0xC001 0x00 2 && memRead t 0xFF81 == 0x67) = true := by decide
theorem test_v12_ldh_a_m90 :
    (let t := after (start [0xF0, 0x90] id [(0xFF90, 0x12)])
    ends t 0xC002 0x00 3 && t.cpu.a == 0x12) = true := by decide
theorem test_v14_ld_a_mhli :
    (let t := after ({ start [0x2A] (fun c => { c with h := 0xFF, l := 0xFF }) [] with irq := { ie := 0x15, iflag := 0 } })
    ends t 0xC001 0x00 2 && t.cpu.h == 0x00 && t.cpu.l == 0x00 && t.cpu.a == 0x15) = true := by decide
theorem test_v15_ld_mhld_a :
    (let t := after (start [0x32] (fun c => { c with h := 0xC2, l := 0x00, a := 0x21 }) [])
    ends t 0xC001 0x00 2 && t.cpu.h == 0xC1 && t.cpu.l == 0xFF && memRead t 0xC200 == 0x21) = true := by decide
theorem test_v17_ld_mhli_a :
    (let t := after (start [0x22] (fun c => { c with h := 0xDF, l := 0xFF, a := 0x44 }) [])
    ends t 0xC001 0x00 2 && t.cpu.h == 0xE0 && t.cpu.l == 0x00 && memRead t 0xDFFF == 0x44 && memRead t 0xFDFF == 0x00) = true := by decide

/-! ### 16-bit loads and the stack (2.2) -/

theorem test_v30_ld_bc_1234 :
    (let t := after (start [0x01, 0x34, 0x12] id [])
    ends t 0xC003 0x00 3 && t.cpu.b == 0x12 && t.cpu.c == 0x34) = true := by decide
theorem test_v32_ld_mc300_sp :
    (let t := after (start [0x08, 0x00, 0xC3] (fun c => { c with sp := 0xABCD }) [])
    ends t 0xC003 0x00 5 && memRead t 0xC300 == 0xCD && memRead t 0xC301 == 0xAB) = true := by decide
theorem test_v33_ld_sp_hl :
    (let t := after (start [0xF9] (fun c => { c with h := 0xD0, l := 0x00 }) [])
    ends t 0xC001 0x00 2 && t.cpu.sp == 0xD000) = true := by decide
theorem test_v34_push_bc :
    (let t := after (start [0xC5] (fun c => { c with b := 0x12, c := 0x34, sp := 0xD000 }) [])
    ends t 0xC001 0x00 4 && t.cpu.sp == 0xCFFE && memRead t 0xCFFF == 0x12 && memRead t 0xCFFE == 0x34) = true := by decide
theorem test_v35_pop_de :
    (let t := after (start [0xD1] (fun c => { c with sp := 0xCFFE }) [(0xCFFE, 0x34), (0xCFFF, 0x12)])
    ends t 0xC001 0x00 3 && t.cpu.d == 0x12 && t.cpu.e == 0x34 && t.cpu.sp == 0xD000) = true := by decide
theorem test_v36_push_af :
    (let t := after (start [0xF5] (fun c => { c with a := 0x9A, sp := 0xD000, f := Flags.ofByte 0xB0 }) [])
    ends t 0xC001 0xB0 4 && t.cpu.sp == 0xCFFE && memRead t 0xCFFF == 0x9A && memRead t 0xCFFE == 0xB0) = true := by decide
theorem test_v37_pop_af :
    (let t := after (start [0xF1] (fun c => { c with sp := 0xCFFE }) [(0xCFFE, 0xFF), (0xCFFF, 0x12)])
    ends t 0xC001 0xF0 3 && t.cpu.a == 0x12 && t.cpu.sp == 0xD000) = true := by decide
theorem test_v41_ld_hl_sp_plus_02 :
    (let t := after (start [0xF8, 0x02] (fun c => { c with sp := 0xFFFE, f := Flags.ofByte 0xF0 }) [])
    ends t 0xC002 0x30 3 && t.cpu.h == 0x00 && t.cpu.l == 0x00) = true := by decide
theorem test_v43_ld_hl_sp_minus_128 :
    (let t := after (start [0xF8, 0x80] (fun c => { c with sp := 0x0080 }) [])
    ends t 0xC002 0x10 3 && t.cpu.h == 0x00 && t.cpu.l == 0x00) = true := by decide

/-! ### 8-bit arithmetic and logic (2.3) -/

theorem test_v50_add_a_b :
    (let t := after (start [0x80] (fun c => { c with a := 0x3A, b := 0xC6 }) [])
    ends t 0xC001 0xB0 1 && t.cpu.a == 0x00) = true := by decide
theorem test_v53_add_a_mhl :
    (let t := after (start [0x86] (fun c => { c with a := 0x01, h := 0xC1, l := 0x00 }) [(0xC100, 0xFF)])
    ends t 0xC001 0xB0 2 && t.cpu.a == 0x00) = true := by decide
theorem test_v55_adc_a_c :
    (let t := after (start [0x89] (fun c => { c with a := 0xFF, c := 0x00, f := Flags.ofByte 0x10 }) [])
    ends t 0xC001 0xB0 1 && t.cpu.a == 0x00) = true := by decide
theorem test_v57_adc_a_ff :
    (let t := after (start [0xCE, 0xFF] (fun c => { c with a := 0x00, f := Flags.ofByte 0x10 }) [])
    ends t 0xC002 0xB0 2 && t.cpu.a == 0x00) = true := by decide
theorem test_v59_sub_d :
    (let t := after (start [0x92] (fun c => { c with a := 0x10, d := 0x01 }) [])
    ends t 0xC001 0x60 1 && t.cpu.a == 0x0F) = true := by decide
theorem test_v62_sbc_a_e :
    (let t := after (start [0x9B] (fun c => { c with a := 0x10, e := 0x0F, f := Flags.ofByte 0x10 }) [])
    ends t 0xC001 0xE0 1 && t.cpu.a == 0x00) = true := by decide
theorem test_v64_and_h :
    (let t := after (start [0xA4] (fun c => { c with a := 0xF0, h := 0x0F, f := Flags.ofByte 0x50 }) [])
    ends t 0xC001 0xA0 1 && t.cpu.a == 0x00) = true := by decide
theorem test_v65_and_3c :
    (let t := after (start [0xE6, 0x3C] (fun c => { c with a := 0x5A }) [])
    ends t 0xC002 0x20 2 && t.cpu.a == 0x18) = true := by decide
theorem test_v67_xor_mhl :
    (let t := after (start [0xAE] (fun c => { c with a := 0xFF, h := 0xC1, l := 0x00 }) [(0xC100, 0x0F)])
    ends t 0xC001 0x00 2 && t.cpu.a == 0xF0) = true := by decide
theorem test_v68_or_l :
    (let t := after (start [0xB5] (fun c => { c with a := 0x00, l := 0x00, f := Flags.ofByte 0xF0 }) [])
    ends t 0xC001 0x80 1 && t.cpu.a == 0x00) = true := by decide
theorem test_v71_cp_b :
    (let t := after (start [0xB8] (fun c => { c with a := 0x3C, b := 0x40 }) [])
    ends t 0xC001 0x50 1 && t.cpu.a == 0x3C) = true := by decide
theorem test_v72_cp_2f :
    (let t := after (start [0xFE, 0x2F] (fun c => { c with a := 0x3C }) [])
    ends t 0xC002 0x60 2 && t.cpu.a == 0x3C) = true := by decide
theorem test_v74_inc_b :
    (let t := after (start [0x04] (fun c => { c with b := 0x0F, f := Flags.ofByte 0x40 }) [])
    ends t 0xC001 0x20 1 && t.cpu.b == 0x10) = true := by decide
theorem test_v75_inc_mhl :
    (let t := after (start [0x34] (fun c => { c with h := 0xC1, l := 0x00 }) [(0xC100, 0x4F)])
    ends t 0xC001 0x20 3 && memRead t 0xC100 == 0x50) = true := by decide
theorem test_v78_dec_c :
    (let t := after (start [0x0D] (fun c => { c with c := 0x10, f := Flags.ofByte 0x10 }) [])
    ends t 0xC001 0x70 1 && t.cpu.c == 0x0F) = true := by decide
theorem test_v79_dec_mhl :
    (let t := after (start [0x35] (fun c => { c with h := 0xFF, l := 0x80 }) [(0xFF80, 0x00)])
    ends t 0xC001 0x60 3 && memRead t 0xFF80 == 0xFF) = true := by decide
theorem test_v81_daa :
    (let t := after (start [0x27] (fun c => { c with a := 0x9A, f := Flags.ofByte 0x00 }) [])
    ends t 0xC001 0x90 1 && t.cpu.a == 0x00) = true := by decide
theorem test_v82_daa :
    (let t := after (start [0x27] (fun c => { c with a := 0x00, f := Flags.ofByte 0x30 }) [])
    ends t 0xC001 0x10 1 && t.cpu.a == 0x66) = true := by decide
theorem test_v84_daa :
    (let t := after (start [0x27] (fun c => { c with a := 0xFF, f := Flags.ofByte 0x70 }) [])
    ends t 0xC001 0x50 1 && t.cpu.a == 0x99) = true := by decide
theorem test_v87_cpl :
    (let t := after (start [0x2F] (fun c => { c with a := 0x35, f := Flags.ofByte 0x90 }) [])
    ends t 0xC001 0xF0 1 && t.cpu.a == 0xCA) = true := by decide
theorem test_v88_scf :
    (let t := after (start [0x37] (fun c => { c with f := Flags.ofByte 0xE0 }) [])
    ends t 0xC001 0x90 1 && t.cpu.a == 0x00) = true := by decide
theorem test_v90_ccf :
    (let t := after (start [0x3F] (fun c => { c with f := Flags.ofByte 0x00 }) [])
    ends t 0xC001 0x10 1 && t.cpu.a == 0x00) = true := by decide

/-! ### 16-bit arithmetic (2.4) -/

theorem test_v101_add_hl_de :
    (let t := after (start [0x19] (fun c => { c with h := 0xFF, l := 0xFF, d := 0x00, e := 0x01, f := Flags.ofByte 0x40 }) [])
    ends t 0xC001 0x30 2 && t.cpu.h == 0x00 && t.cpu.l == 0x00) = true := by decide
theorem test_v103_add_hl_sp :
    (let t := after (start [0x39] (fun c => { c with h := 0x00, l := 0xFF, sp := 0x0001 }) [])
    ends t 0xC001 0x00 2 && t.cpu.h == 0x01 && t.cpu.l == 0x00) = true := by decide
theorem test_v104_inc_bc :
    (let t := after (start [0x03] (fun c => { c with b := 0xFF, c := 0xFF, f := Flags.ofByte 0xF0 }) [])
    ends t 0xC001 0xF0 2 && t.cpu.b == 0x00 && t.cpu.c == 0x00) = true := by decide
theorem test_v106_dec_de :
    (let t := after (start [0x1B] (fun c => { c with d := 0x00, e := 0x00, f := Flags.ofByte 0x00 }) [])
    ends t 0xC001 0x00 2 && t.cpu.d == 0xFF && t.cpu.e == 0xFF) = true := by decide
theorem test_v108_add_sp_minus_1 :
    (let t := after (start [0xE8, 0xFF] (fun c => { c with sp := 0x0001, f := Flags.ofByte 0xC0 }) [])
    ends t 0xC002 0x30 4 && t.cpu.sp == 0x0000) = true := by decide
theorem test_v110_add_sp_minus_128 :
    (let t := after (start [0xE8, 0x80] (fun c => { c with sp := 0x0000 }) [])
    ends t 0xC002 0x00 4 && t.cpu.sp == 0xFF80) = true := by decide

/-! ### Rotates, shifts and bits (2.5) -/

theorem test_v120_rlca :
    (let t := after (start [0x07] (fun c => { c with a := 0x80, f := Flags.ofByte 0xE0 }) [])
    ends t 0xC001 0x10 1 && t.cpu.a == 0x01) = true := by decide
theorem test_v122_rrca :
    (let t := after (start [0x0F] (fun c => { c with a := 0x01 }) [])
    ends t 0xC001 0x10 1 && t.cpu.a == 0x80) = true := by decide
theorem test_v123_rla :
    (let t := after (start [0x17] (fun c => { c with a := 0x80, f := Flags.ofByte 0x00 }) [])
    ends t 0xC001 0x10 1 && t.cpu.a == 0x00) = true := by decide
theorem test_v126_rra :
    (let t := after (start [0x1F] (fun c => { c with a := 0x00, f := Flags.ofByte 0x90 }) [])
    ends t 0xC001 0x00 1 && t.cpu.a == 0x80) = true := by decide
theorem test_v127_rlc_b :
    (let t := after (start [0xCB, 0x00] (fun c => { c with b := 0x80 }) [])
    ends t 0xC002 0x10 2 && t.cpu.b == 0x01) = true := by decide
theorem test_v129_rrc_c :
    (let t := after (start [0xCB, 0x09] (fun c => { c with c := 0x01 }) [])
    ends t 0xC002 0x10 2 && t.cpu.c == 0x80) = true := by decide
theorem test_v131_rl_d :
    (let t := after (start [0xCB, 0x12] (fun c => { c with d := 0x40, f := Flags.ofByte 0x10 }) [])
    ends t 0xC002 0x00 2 && t.cpu.d == 0x81) = true := by decide
theorem test_v132_rr_e :
    (let t := after (start [0xCB, 0x1B] (fun c => { c with e := 0x01 }) [])
    ends t 0xC002 0x90 2 && t.cpu.e == 0x00) = true := by decide
theorem test_v134_sla_h :
    (let t := after (start [0xCB, 0x24] (fun c => { c with h := 0x80 }) [])
    ends t 0xC002 0x90 2 && t.cpu.h == 0x00) = true := by decide
theorem test_v136_sra_l :
    (let t := after (start [0xCB, 0x2D] (fun c => { c with l := 0x81 }) [])
    ends t 0xC002 0x10 2 && t.cpu.l == 0xC0) = true := by decide
theorem test_v138_swap_a :
    (let t := after (start [0xCB, 0x37] (fun c => { c with a := 0xF1, f := Flags.ofByte 0xF0 }) [])
    ends t 0xC002 0x00 2 && t.cpu.a == 0x1F) = true := by decide
theorem test_v140_srl_b :
    (let t := after (start [0xCB, 0x38] (fun c => { c with b := 0x01 }) [])
    ends t 0xC002 0x90 2 && t.cpu.b == 0x00) = true := by decide
theorem test_v142_rlc_mhl :
    (let t := after (start [0xCB, 0x06] (fun c => { c with h := 0xC1, l := 0x00 }) [(0xC100, 0x85)])
    ends t 0xC002 0x10 4 && memRead t 0xC100 == 0x0B) = true := by decide
theorem test_v143_swap_mhl :
    (let t := after (start [0xCB, 0x36] (fun c => { c with h := 0xC1, l := 0x00 }) [(0xC100, 0xA5)])
    ends t 0xC002 0x00 4 && memRead t 0xC100 == 0x5A) = true := by decide
theorem test_v144_bit_7_h :
    (let t := after (start [0xCB, 0x7C] (fun c => { c with h := 0x80, f := Flags.ofByte 0x50 }) [])
    ends t 0xC002 0x30 2 && t.cpu.h == 0x80) = true := by decide
theorem test_v146_bit_0_mhl :
    (let t := after (start [0xCB, 0x46] (fun c => { c with h := 0xC1, l := 0x00 }) [(0xC100, 0xFE)])
    ends t 0xC002 0xA0 3) = true := by decide
theorem test_v148_res_0_mhl :
    (let t := after (start [0xCB, 0x86] (fun c => { c with h := 0xC1, l := 0x00, f := Flags.ofByte 0xF0 }) [(0xC100, 0xFF)])
    ends t 0xC002 0xF0 4 && memRead t 0xC100 == 0xFE) = true := by decide
theorem test_v149_res_7_a :
    (let t := after (start [0xCB, 0xBF] (fun c => { c with a := 0xFF }) [])
    ends t 0xC002 0x00 2 && t.cpu.a == 0x7F) = true := by decide
theorem test_v151_set_2_e :
    (let t := after (start [0xCB, 0xD3] (fun c => { c with e := 0x00 }) [])
    ends t 0xC002 0x00 2 && t.cpu.e == 0x04) = true := by decide
theorem test_v152_set_1_mhl :
    (let t := after (start [0xCB, 0xCE] (fun c => { c with h := 0x80, l := 0x00 }) [])
    ends t 0xC002 0x00 4 && memRead t 0x8000 == 0x02) = true := by decide

/-! ### Control transfer (2.6) -/

theorem test_v160_jp_1234 :
    (let t := after (start [0xC3, 0x34, 0x12] id [])
    ends t 0x1234 0x00 4) = true := by decide
theorem test_v161_jp_hl :
    (let t := after (start [0xE9] (fun c => { c with h := 0xC3, l := 0x45 }) [])
    ends t 0xC345 0x00 1) = true := by decide
theorem test_v163_jp_nz_c100 :
    (let t := after (start [0xC2, 0x00, 0xC1] (fun c => { c with f := Flags.ofByte 0x80 }) [])
    ends t 0xC003 0x80 3) = true := by decide
theorem test_v164_jp_c_c100 :
    (let t := after (start [0xDA, 0x00, 0xC1] (fun c => { c with f := Flags.ofByte 0x10 }) [])
    ends t 0xC100 0x10 4) = true := by decide
theorem test_v167_jr_minus_128 :
    (let t := after (start [0x18, 0x80] id [])
    ends t 0xBF82 0x00 3) = true := by decide
theorem test_v168_jr_z_plus_7f :
    (let t := after (start [0x28, 0x7F] (fun c => { c with f := Flags.ofByte 0x80 }) [])
    ends t 0xC081 0x80 3) = true := by decide
theorem test_v170_jr_nc_minus_3 :
    (let t := after (start [0x30, 0xFD] (fun c => { c with f := Flags.ofByte 0x00 }) [])
    ends t 0xBFFF 0x00 3) = true := by decide
theorem test_v172_call_c200 :
    (let t := after (start [0xCD, 0x00, 0xC2] (fun c => { c with sp := 0xD000 }) [])
    ends t 0xC200 0x00 6 && t.cpu.sp == 0xCFFE && memRead t 0xCFFF == 0xC0 && memRead t 0xCFFE == 0x03) = true := by decide
theorem test_v173_call_z_c200 :
    (let t := after (start [0xCC, 0x00, 0xC2] (fun c => { c with sp := 0xD000, f := Flags.ofByte 0x80 }) [])
    ends t 0xC200 0x80 6 && t.cpu.sp == 0xCFFE && memRead t 0xCFFF == 0xC0 && memRead t 0xCFFE == 0x03) = true := by decide
theorem test_v174_call_z_c200 :
    (let t := after (start [0xCC, 0x00, 0xC2] (fun c => { c with sp := 0xD000, f := Flags.ofByte 0x00 }) [])
    ends t 0xC003 0x00 3 && t.cpu.sp == 0xD000) = true := by decide
theorem test_v175_ret :
    (let t := after (start [0xC9] (fun c => { c with sp := 0xCFFE }) [(0xCFFE, 0x03), (0xCFFF, 0xC0)])
    ends t 0xC003 0x00 4 && t.cpu.sp == 0xD000) = true := by decide
theorem test_v176_ret_nc :
    (let t := after (start [0xD0] (fun c => { c with sp := 0xCFFE, f := Flags.ofByte 0x00 }) [(0xCFFE, 0x03), (0xCFFF, 0xC0)])
    ends t 0xC003 0x00 5 && t.cpu.sp == 0xD000) = true := by decide
theorem test_v177_ret_nc :
    (let t := after (start [0xD0] (fun c => { c with sp := 0xCFFE, f := Flags.ofByte 0x10 }) [(0xCFFE, 0x03), (0xCFFF, 0xC0)])
    ends t 0xC001 0x10 2 && t.cpu.sp == 0xCFFE) = true := by decide
theorem test_v178_reti :
    (let t := after (start [0xD9] (fun c => { c with sp := 0xCFFE, ime := false }) [(0xCFFE, 0x50), (0xCFFF, 0x01)])
    ends t 0x0150 0x00 4 && t.cpu.sp == 0xD000 && t.cpu.ime) = true := by decide
theorem test_v179_rst_28 :
    (let t := after (start [0xEF] (fun c => { c with sp := 0xD000 }) [])
    ends t 0x0028 0x00 4 && t.cpu.sp == 0xCFFE && memRead t 0xCFFF == 0xC0 && memRead t 0xCFFE == 0x01) = true := by decide
theorem test_v180_rst_00 :
    (let t := after (start [0xC7] (fun c => { c with sp := 0x0001 }) [])
    ends t 0x0000 0x00 4 && t.cpu.sp == 0xFFFF && memRead t 0xFFFF == 0x01) = true := by decide

/-! ### System instructions and an undefined byte (2.7) -/

theorem test_v190_nop :
    (let t := after (start [0x00] (fun c => { c with a := 0x12, f := Flags.ofByte 0xF0 }) [])
    ends t 0xC001 0xF0 1) = true := by decide
theorem test_v191_halt :
    (let t := after (start [0x76] id [])
    ends t 0xC000 0x00 1 && t.cpu.halted) = true := by decide
theorem test_v192_stop :
    (let t := after (start [0x10, 0x00] id [])
    ends t 0xC002 0x00 1) = true := by decide
theorem test_v193_stop :
    (let t := after ({ start [0x10, 0x00] id [] with params := { stopMode := .refuse, vblankLyCounts := false } })
    ends t 0xC000 0x00 0 && t.cpu.fatal == some (0x10, 0xC000)) = true := by decide
theorem test_v194_di :
    (let t := after (start [0xF3] (fun c => { c with ime := true }) [])
    ends t 0xC001 0x00 1 && !t.cpu.ime) = true := by decide
theorem test_v196_undefined_d3 :
    (let t := after (start [0xD3] (fun c => { c with a := 0x77 }) [])
    ends t 0xC000 0x00 0 && t.cpu.fatal == some (0xD3, 0xC000)) = true := by decide
/-! ## Devices: values of 96_test_vectors_devices.md -/

/-- Select 01: TIMA goes up when the counter's low four bits wrap, not one tick before. -/
theorem test_timer_select_01 :
    ((timerTick (withTimer 12 0 0 5)).timer.tima == 1 && (timerTick (withTimer 8 0 0 5)).timer.tima == 0) = true := by
  decide
set_option maxRecDepth 8000 in
/-- A sprite at x 8 paints screen columns 0 to 7 with shade 1 and leaves column 8 (96_test_vectors_devices.md 4). -/
theorem test_sprite_pixel_over_white :
    (let s := { withPpu fun p => { p with lcdc := 0x93 } with
        mem := Memory.writeAll (Memory.writeAll [] 0x8030 [0xFF, 0x00]) 0xFE00 [0x10, 0x08, 0x03, 0x00] }
    (objectSearch s, ((lineRow (searchObjects s))[7]).toNat, ((lineRow (searchObjects s))[8]).toNat)) =
      ([0], 1, 0) := by
  decide
/-- JOYP with both groups deselected reads 0x3F, whatever is pressed (10_state.md R44). -/
theorem test_joyp_deselected : memRead (memWrite State.reset 0xFF00 0xFF) 0xFF00 = 0x3F := by decide

/-! ## Witnesses: each statement's hypotheses are met by a concrete state and operands -/

theorem test_witness_DecodeOfEncode_low : (Instr.jr_nz_e (-128)).wellFormed = true := by decide
theorem test_witness_DecodeOfEncode_high : (Instr.add_sp_e 127).wellFormed = true := by decide
theorem test_witness_EncodeOfDecode : decode [0x10, 0x99, 0x00] = .ok (.stop, [0x00]) := by rfl
theorem test_witness_StepRunsTheDecodedInstruction :
    let s := start [0xCB, 0x37] id []
    AtBoundary s ∧ boundary s = .fetch s ∧ decode (fetchedBytes s) = .ok (.swap_a, [0x00]) :=
  ⟨⟨rfl, rfl⟩, rfl, rfl⟩
theorem test_witness_StepRunsTheInstructionInMemory :
    let s := start [0xEA, 0x35, 0xC2] id []
    AtBoundary s ∧ boundary s = .fetch s ∧ placeable3 s.cpu.pc = true ∧
      decode [memRead s s.cpu.pc, memRead s (s.cpu.pc + 1), memRead s (s.cpu.pc + 2)] = .ok (.ld_mnn_a 0xC235, []) :=
  ⟨⟨rfl, rfl⟩, rfl, by decide, rfl⟩
theorem test_placeable_boundaries :
    (placeable3 0x7FFD && !placeable3 0x7FFE && placeable3 0xA000 && placeable3 0xFDFD && !placeable3 0xFDFE &&
      placeable3 0xFF80 && placeable3 0xFFFC && !placeable3 0xFFFD) = true := by decide
theorem test_witness_PlacedWordRuns :
    decodeTableWord 8 0x76 = some .halt ∧ decodeTableWord 24 0xC235EA = some (.ld_mnn_a 0xC235) := by decide
theorem test_witness_StepIsTheTabledMachineCycles :
    AtBoundary State.reset ∧ AtBoundary (irqState false true 1 0) ∧ AtBoundary (irqState true false 1 1) ∧
      cyclesOfStep (irqState false true 1 0) = 1 ∧ cyclesOfStep (irqState true false 1 1) = 5 :=
  ⟨⟨rfl, rfl⟩, ⟨rfl, rfl⟩, ⟨rfl, rfl⟩, rfl, rfl⟩
/-- A cycle that goes on, one that finds an undefined opcode, and one of a stopped machine: the timer ticks in the first. -/
theorem test_witness_StepIsTheTabledMachineCycles_cycles :
    (cpuStep (start [0x00] id [])).cpu.fatal = none ∧ (systemStep (start [0x00] id [])).timer.div = 4 ∧
    (start [0xD3] id []).cpu.fatal = none ∧ (cpuStep (start [0xD3] id [])).cpu.fatal ≠ none ∧
    (systemStep (start [0xD3] id [])).timer.div = 0 ∧
    (start [] (fun c => { c with fatal := some (0xD3, 0xC000) }) []).cpu.fatal ≠ none := by decide
/-- One line change due in the coming gap, and none. -/
theorem test_witness_DevicesOnlyRaiseRequests :
    State.reset.hostQueue = [] ∧
    (endCycle { State.reset with hostQueue := [[{ button := .a, pressed := true }], []] }).joypad.pressed.a = true ∧
    (endCycle { State.reset with hostQueue := [[], [{ button := .a, pressed := true }]] }).joypad.pressed.a = false := by
  decide
/-- A state with the LCD on in the middle of a line, and an instruction in RAM. -/
def running : State := { lcdOn .mode3 7 40 with mem := Memory.writeAll [] 0xC000 [0x3C, 0x3D] }
theorem test_witness_invariant : running.Inv where
  cpu := ⟨by decide, by decide, rfl⟩
  ppu := ⟨by decide, by decide, by decide, by decide, by decide, (by decide : running.ppu.ly.toNat ≤ 143), by decide⟩
  div_multiple := by decide
  mem := ⟨by decide, by decide⟩
  bootRom := ⟨by decide, by decide⟩
  cartRom := ⟨by decide, by decide⟩
theorem test_witness_EveryStepKeepsTheInvariant : step running = .next (after running) := by rfl
theorem test_witness_ConstructedMachine_and_ResetValues :
    (∃ s, State.construct (List.replicate 256 0x31) (List.replicate 32768 0xC7) Params.default = .ok s) ∧
    ([] : List Byte).length ≠ 256 := by
  refine ⟨⟨_, if_pos ?_⟩, by decide⟩
  simp only [romImagesFit, bootRomSize, cartRomSize, List.length_replicate]
  decide
theorem test_witness_RomAndParametersNeverChange :
    let s := { start [0x00] id [] with bus := { State.reset.bus with bootOff := true } }
    step s = .next (after s) ∧ s.bus.bootOff = true := ⟨rfl, rfl⟩
theorem test_witness_StoppedMachineIsFinal :
    (start [0xD3] (fun c => { c with fatal := some (0xD3, 0xC000) }) []).cpu.fatal = some (0xD3, 0xC000) := rfl
theorem test_witness_UndefinedByteStopsTheMachine :
    let s := start [0xFC] id []
    (0xFC, .illegal_fc) ∈ Instr.undefinedBytes ∧ AtBoundary s ∧ boundary s = .fetch s ∧ memRead s s.cpu.pc = 0xFC :=
  ⟨by decide, ⟨rfl, rfl⟩, rfl, rfl⟩
theorem test_witness_ControlStateWriters :
    (∃ t, exec .ei State.reset = .next t ∧ State.reset.cpu.ei = false ∧ t.cpu.ei = true) ∧
    (∃ t, exec .illegal_e4 State.reset = .next t ∧ t.cpu.fatal ≠ State.reset.cpu.fatal) ∧
    (∃ t, exec .inc_b State.reset = .next t ∧ writesSp .inc_b = false) :=
  ⟨⟨_, rfl, rfl, rfl⟩, ⟨_, rfl, by decide⟩, ⟨_, rfl, rfl⟩⟩
/-- A store to RAM, one to the DMA register, one to the boot latch, and a form that stores nothing. -/
theorem test_witness_InstructionFrame :
    (∃ t, exec (.ld_mnn_a 0xC100) State.reset = .next t) ∧ storageCell 0xE100 = some 0xC100 ∧
    (∃ t, exec (.ldh_mn_a 0x46) State.reset = .next t) ∧
      (0xFF46 : Word) ∈ storesOf (.ldh_mn_a 0x46) State.reset ∧
    (0xFF50 : Word) ∈ storesOf (.ldh_mn_a 0x50) State.reset ∧
    (∃ t, exec .nop State.reset = .next t) ∧ storesOf .nop State.reset = [] ∧ regionOf 0xDFFF = .ram 0xDFFF ∧
    isRegister 0xFEFF = false ∧ isRegister 0xFF00 = true ∧ isRegister 0xFF7F = true ∧ isRegister 0xFF80 = false :=
  ⟨⟨_, rfl⟩, by decide, ⟨_, rfl⟩, by decide, by decide, ⟨_, rfl⟩, rfl, by decide, by decide, by decide, by decide,
    by decide⟩
theorem test_witness_CanonicalMemoryIsDetermined :
    let m := Memory.write (Memory.write [] 0xC001 2) 0xC000 1
    let m' := Memory.write (Memory.write [] 0xC000 1) 0xC001 2
    m.wf = true ∧ m'.wf = true ∧ ∀ a, m.read a = m'.read a := ⟨by decide, by decide, fun _ => rfl⟩
theorem test_witness_RamAndItsEcho :
    regionOf 0xA000 = .ram 0xA000 ∧ regionOf 0xBFFF = .ram 0xBFFF ∧ regionOf 0xC000 = .ram 0xC000 ∧
    regionOf 0xDFFF = .ram 0xDFFF ∧ regionOf 0xE000 = .ram 0xC000 ∧ regionOf 0xFDFF = .ram 0xDDFF ∧
    regionOf 0xFF80 = .ram 0xFF80 ∧ regionOf 0xFFFE = .ram 0xFFFE ∧ regionOf 0xFFFF = .ie ∧ regionOf 0xFE00 = .oam := by
  decide
/-- The gates at the ends of their regions, in a mode of each kind. -/
theorem test_witness_PpuGates :
    memRead (lcdOn .mode3 0 0) 0x8000 = 0xFF ∧ memRead (lcdOn .mode2 0 0) 0x9FFF = 0x00 ∧
    memRead (lcdOn .mode2 0 0) 0xFE00 = 0xFF ∧ memRead (lcdOn .mode3 0 0) 0xFE9F = 0xFF ∧
    memRead (lcdOn .mode0 0 0) 0xFE9F = 0x00 := by decide
theorem test_witness_RomAndUnmappedIgnoreWrites :
    memWrite State.reset 0x0000 0x12 = State.reset ∧ memWrite State.reset 0x7FFF 0x12 = State.reset ∧
    memRead State.reset 0xFEA0 = 0x00 ∧ memRead State.reset 0xFEFF = 0x00 := ⟨rfl, rfl, by decide, by decide⟩
set_option maxRecDepth 8000 in
/-- The last page DMA copies from and the first it does not. -/
theorem test_witness_OamDmaCopies160Bytes :
    let s := { State.reset with mem := Memory.writeAll [] 0xDF9F [0x11] }
    (memWrite s 0xFF46 0xDF).mem.read 0xFE9F = 0x11 ∧ (memWrite s 0xFF46 0xE0).mem.read 0xFE9F = 0x00 := by decide
theorem test_witness_IoReadBack :
    memRead (memWrite State.reset 0xFF10 0x5A) 0xFF10 = 0x5A ∧ memRead (memWrite State.reset 0xFF3F 0x5A) 0xFF3F = 0x5A ∧
    memRead (memWrite State.reset 0xFF07 0xFF) 0xFF07 = 0x07 := by decide
/-- The latch of 0xFF50 reads in bit 0, and a later 0x00 does not clear it (96_test_vectors_devices.md 6). -/
theorem test_boot_latch_reads_back :
    memRead (memWrite State.reset 0xFF50 0x00) 0xFF50 = 0x00 ∧ memRead (memWrite State.reset 0xFF50 0x80) 0xFF50 = 0x01 ∧
    memRead (memWrite (memWrite State.reset 0xFF50 0x80) 0xFF50 0x00) 0xFF50 = 0x01 := by decide
/-- Down on line bit 3 with the directions selected only, and Start not (10_state.md R44). -/
theorem test_joyp_lines :
    let pressed := { State.reset.joypad.pressed with down := true, start := true, right := true }
    let s := { State.reset with joypad := { State.reset.joypad with pressed := pressed } }
    memRead (memWrite s 0xFF00 0x20) 0xFF00 = 0x26 ∧ memRead (memWrite s 0xFF00 0x10) 0xFF00 = 0x17 := by decide
/-- The ends of the ranges with no register, and the registers beside them (10_state.md R43, R53). -/
theorem test_addresses_with_no_register :
    (([0xFF03, 0xFF08, 0xFF0E, 0xFF4C, 0xFF4F, 0xFF51, 0xFF7F] : List Word).all fun a => regionOf a == .io .none) = true ∧
    (([0xFF02, 0xFF04, 0xFF07, 0xFF0F, 0xFF4B, 0xFF50, 0xFF80] : List Word).all fun a => regionOf a != .io .none) = true := by
  decide
theorem test_witness_TimerTicks :
    (timerTick (withTimer 0xFFFC 0x10 0x23 3)).timer.tima = 0x10 ∧
    (timerTick (withTimer 0x03F8 0x10 0x23 4)).timer.tima = 0x10 ∧
    (timerTick (withTimer 0x03FC 0x10 0x23 4)).timer.tima = 0x11 ∧
    (timerTick (withTimer 0x000C 0xFF 0x23 5)).timer.tima = 0x23 ∧
    (timerTick (withTimer 0x000C 0xFF 0x23 5)).irq.iflag = 0b00100 := by decide
theorem test_witness_PpuModeDurations :
    ∀ m ∈ ([.mode0, .mode1, .mode2, .mode3] : List PpuMode),
      (lcdOn m 0 0).ppu.lcdEn = true ∧ (lcdOn m 0 0).ppu.dots = 0 ∧ (lcdOn m 0 0).ppu.mode = m := by decide
/-- LY inside Mode1 with the parameter set: 144 up to dot 455, 145 from dot 456 (50_ppu.md R309). -/
theorem test_witness_PpuModeDurations_counting :
    let s := { lcdOn .mode1 144 0 with params := { stopMode := .nop2, vblankLyCounts := true } }
    s.ppu.ly = 144 ∧ s.params.vblankLyCounts = true ∧ (lcdOn .mode1 144 0).params.vblankLyCounts = false ∧
    (ppuAdvance (setDots 448 s)).ppu.ly = 144 ∧ (ppuAdvance (setDots 452 s)).ppu.ly = 145 := by decide
theorem test_witness_LcdOffIdles : (withPpu fun p => { p with lcdc := 0x7F }).ppu.lcdEn = false := by decide
theorem test_witness_LcdOnStartsAFrame :
    (withPpu fun p => { p with lcdc := 0x80 }).ppu.lcdEn = true ∧
    (withPpu fun p => { p with lcdc := 0x80 }).ppu.mode = .off := by decide
theorem test_witness_StatUpdateRequests :
    (lcdOn .mode2 3 76).ppu.lcdEn = true ∧ (ppuAdvance (lcdOn .mode2 3 76)).ppu.mode ≠ (lcdOn .mode2 3 76).ppu.mode ∧
    (ppuAdvance (lcdOn .mode2 3 72)).ppu.mode = (lcdOn .mode2 3 72).ppu.mode ∧
    (statUpdate .mode0 (withPpu fun p => { p with statEnables := 1, ly := 1 })).irq.iflag = 0b00010 ∧
    (statUpdate .mode3 (withPpu fun p => { p with statEnables := 7, ly := 1 })).irq.iflag = 0 := by decide
/-- The exit of Mode0 at lines 143 and 142; the vblank request and Mode1 at the first only. -/
theorem test_witness_VblankRequestedOnce :
    (ppuAdvance (lcdOn .mode0 143 200)).ppu.mode = .mode1 ∧ (ppuAdvance (lcdOn .mode0 143 200)).irq.iflag = 0b00001 ∧
    (ppuAdvance (lcdOn .mode0 142 200)).ppu.mode = .mode2 ∧ (ppuAdvance (lcdOn .mode0 142 200)).irq.iflag = 0 ∧
    (ppuAdvance (lcdOn .mode0 143 196)).ppu.mode = .mode0 := by decide
theorem test_witness_SpriteOverwrites_and_Background_columns : (0 : Nat) < 160 ∧ (159 : Nat) < 160 := by decide
theorem test_witness_BackgroundAndWindow :
    (let p := (withPpu fun p => { p with lcdc := 0xA0, wx := 166 }).ppu
    windowAt p 158 = false ∧ windowAt p 159 = true) := by decide
/-- The exits of Mode2 and Mode3 and the calls before them (50_ppu.md R304). -/
theorem test_witness_BlankScreenIsWhite_calls :
    (ppuAdvance (lcdOn .mode2 7 76)).ppu.mode = .mode3 ∧ (ppuAdvance (lcdOn .mode2 7 72)).ppu.mode = .mode2 ∧
    (ppuAdvance (lcdOn .mode3 7 168)).ppu.mode = .mode0 ∧ (ppuAdvance (lcdOn .mode3 7 164)).ppu.mode = .mode3 ∧
    (lcdOn .mode3 143 168).ppu.ly.toNat < 144 ∧
    (lcdOn .mode2 7 76).ppu.lcdEn = true ∧ (withPpu fun p => { p with mode := .mode3, dots := 168 }).ppu.lcdEn = false := by
  decide
theorem test_witness_BlankScreenIsWhite :
    (lcdOn .mode3 143 168).ppu.ly.toNat < 144 ∧ (lcdOn .mode3 143 168).ppu.bgp = 0xE4 ∧
    (∀ a, (lcdOn .mode3 143 168).mem.read a = 0) := ⟨by decide, by decide, fun _ => rfl⟩
/-- A release in a selected group requests, in a deselected group it does not (96 section 7). -/
theorem test_witness_JoypadReleaseRequests :
    let press (s : State) := joypadSet s { button := .a, pressed := true }
    let release (s : State) := joypadSet s { button := .a, pressed := false }
    let deselected := memWrite State.reset 0xFF00 0x20
    State.reset.cpu.fatal = none ∧ (press State.reset).joypad.pressed.a = true ∧ (press State.reset).irq.iflag = 0 ∧
    (release (press State.reset)).irq.iflag = 0b10000 ∧ (release (press deselected)).irq.iflag = 0 := by decide
theorem test_witness_InterruptPriority :
    (irqState true false 0b11111 0b10100).servedSource = some .timer ∧
    (irqState false false 0b11111 0b10100).servedSource = none := by decide
theorem test_witness_InterruptDispatch :
    AtBoundary (irqState true true 0b10000 0b10000) ∧
    (wakeIfHalted (irqState true true 0b10000 0b10000)).servedSource = some .joypad ∧
    regionOf ((irqState true true 0b10000 0b10000).cpu.sp - 1) = .ram 0xDFEF ∧
    regionOf ((irqState true true 0b10000 0b10000).cpu.sp - 2) = .ram 0xDFEE :=
  ⟨⟨rfl, rfl⟩, by decide, by decide, by decide⟩
/-- The dispatch of a halted CPU: PC after HALT on the stack, the joypad's vector, five cycles. -/
theorem test_dispatch_from_halt :
    (let t := after (irqState true true 0b10000 0b10000)
    ends t 0x0060 0x00 5 && t.cpu.sp == 0xDFEE && t.mem.read 0xDFEE == 0x01 && t.mem.read 0xDFEF == 0xC0 &&
      t.irq.iflag == 0 && !t.cpu.ime && !t.cpu.halted) = true := by decide
theorem test_witness_HaltSleepsAndWakes :
    (∀ ime, AtBoundary (irqState ime true 0b00001 0b00001)) ∧
    (irqState true true 0b00001 0b11110).irq.ie &&& (irqState true true 0b00001 0b11110).irq.iflag = 0 ∧
    (irqState true true 0b00001 0b00001).irq.ie &&& (irqState true true 0b00001 0b00001).irq.iflag ≠ 0 :=
  ⟨fun _ => ⟨rfl, rfl⟩, by decide, by decide⟩
theorem test_halt_without_ime_wakes_and_goes_on :
    (let t := after (irqState false true 0b00001 0b00001)
    ends t 0xC002 0x00 1 && t.cpu.a == 0x01 && t.irq.iflag == 0b00001) = true := by decide
theorem test_witness_EiTakesEffectOneInstructionLate :
    let s := start [0x00] (fun c => { c with ei := true }) []
    AtBoundary s ∧ s.cpu.ei = true ∧ s.cpu.di = false ∧ s.cpu.halted = false ∧ s.servedSource = none ∧
    (∃ t, exec .nop (irqState true false 0 0) = .next t ∧ (irqState true false 0 0).cpu.ime = true) :=
  ⟨⟨rfl, rfl⟩, rfl, rfl, rfl, rfl, _, rfl, rfl⟩
theorem test_witness_DecimalAdjustAddsBcd :
    let s := start [] (fun c => { c with a := 0x99, b := 0x90, f := Flags.ofByte 0x10 }) []
    IsBcd s.cpu.a ∧ IsBcd s.cpu.b ∧
      ∃ t u, exec .adc_a_b s = .next t ∧ exec .daa t = .next u ∧ u.cpu.a = 0x90 ∧ u.cpu.f.c = true :=
  ⟨⟨by decide, by decide⟩, ⟨by decide, by decide⟩, _, _, rfl, rfl, by decide, by decide⟩
theorem test_witness_SystemInstructions :
    State.reset.params.stopMode = .nop2 ∧
    ({ State.reset with params := { stopMode := .refuse, vblankLyCounts := true } } : State).params.stopMode = .refuse :=
  ⟨rfl, rfl⟩

end Sys2Proof.Tests
end

section
/-! PROOF. The scope of the model (00_scope.md): the machine cycles of a step, the construction of a machine, and the end
of a machine cycle. -/

namespace Sys2Proof.Machine

open Sys2Proof.Claims

/-! ### The machine cycles of a step -/

theorem finishCycle_of_running {s : State} (running : s.cpu.fatal = none) : finishCycle s = endCycle s := by
  simp [finishCycle, running]

/-- The fetch of an instruction writes no flag. -/
theorem fetched_f (s : State) : (fetched s).cpu.f = s.cpu.f := by
  unfold fetched
  rcases operandReads (memRead s s.cpu.pc) with _ | _ | n <;>
    simp [readOperands, readOperand1, readOperand2, fetchOpcode]

/-- The fetch reads the operand bytes its latched instruction has. -/
theorem reads_fetched_latched (s : State) : Instr.reads (fetched s).latched = operandReads (memRead s s.cpu.pc) := by
  rw [State.latched, fetched_ir]
  exact (instrOf_shape _ _ _).2.2

/-- In the machine cycle of a CPU that stays halted only the devices and the host act (60_exceptions.md R360). -/
theorem machineCycle_of_asleep {s : State} (atBoundary : AtBoundary s) (h : boundary s = .asleep) :
    machineCycle s = endCycle s := by
  obtain ⟨running, stage⟩ := atBoundary
  have idle : cpuStep s = s := by simp [cpuStep, stage, h]
  rw [machineCycle_done running idle, finishCycle_of_running running]

/-- An instruction, from its fetch to the end of its last cycle, is the machine cycles of its row of the opcode table. -/
theorem finish_exec_fetched {s s' : State} (atBoundary : AtBoundary s) (h : boundary s = .fetch s') :
    finish (exec (fetched s').latched (fetched s')) =
      .next (machineCyclesFrom (machineCycles (fetched s').latched s'.cpu.f) s) := by
  obtain ⟨running, stage⟩ := atBoundary
  have tabled : machineCycles (fetched s').latched s'.cpu.f =
      operandReads (memRead s' s'.cpu.pc) + cycleCount (cyclesOf (fetched s').latched) (fetched s') := by
    rw [← fetched_f, ← cycleCount_cyclesOf, reads_fetched_latched]
  rw [tabled, instr_machineCycles running stage h, exec_eq, finish]

/-- The step at a boundary, by what the boundary decides, is the machine cycles counted for it. -/
theorem step_of_atBoundary {s : State} (atBoundary : AtBoundary s) :
    step s = .next (machineCyclesFrom (cyclesOfStep s) s) := by
  obtain ⟨running, stage⟩ := atBoundary
  unfold cyclesOfStep
  cases h : boundary s with
  | asleep =>
    rw [step_of_asleep running stage h, ← machineCycle_of_asleep ⟨running, stage⟩ h]
    rfl
  | dispatch k s' => exact (step_of_dispatch running stage h).trans (dispatch_machineCycles running stage h)
  | fetch s' => exact (step_of_fetch running stage h).trans (finish_exec_fetched ⟨running, stage⟩ h)

/-- A machine cycle whose CPU part leaves the machine running goes on with the devices and the host. -/
theorem systemStep_of_running {s : State} (running : s.cpu.fatal = none) (goesOn : (cpuStep s).cpu.fatal = none) :
    systemStep s = ppuAdvance (timerTick (cpuStep s)) ∧ machineCycle s = hostTurn (systemStep s) := by
  have ticked : systemStep s = deviceTick (cpuStep s) := by simp [systemStep, running, goesOn]
  have alive : (systemStep s).cpu.fatal = none := by rw [ticked, (deviceTick_devicePart _).cpu, goesOn]
  exact ⟨ticked, by simp [machineCycle, alive]⟩

/-- A machine cycle whose CPU part stops the machine ends there. -/
theorem systemStep_of_stopping {s : State} (running : s.cpu.fatal = none) (stops : (cpuStep s).cpu.fatal ≠ none) :
    systemStep s = cpuStep s ∧ machineCycle s = systemStep s := by
  have found : (cpuStep s).cpu.fatal.isSome = true := Option.isSome_iff_ne_none.2 stops
  have stopped : systemStep s = cpuStep s := by simp [systemStep, running, found]
  exact ⟨stopped, by simp [machineCycle, stopped, found]⟩

/-- A stopped machine has no machine cycle. -/
theorem systemStep_of_fatal {s : State} (fatal : s.cpu.fatal ≠ none) : systemStep s = s ∧ machineCycle s = s := by
  have stopped : s.cpu.fatal.isSome = true := Option.isSome_iff_ne_none.2 fatal
  have same : systemStep s = s := by simp [systemStep, stopped]
  exact ⟨same, by simp [machineCycle, same, fatal]⟩

/-- Every step answers a next state: at a boundary by its machine cycles, elsewhere by the rest of what is in progress, and
a stopped machine by itself. -/
theorem step_answers (s : State) : ∃ t, step s = .next t := by
  cases running : s.cpu.fatal with
  | some d => exact ⟨s, step_of_fatal (by rw [running]; rfl)⟩
  | none =>
    by_cases stage : s.cpu.stage = 0
    · exact ⟨_, step_of_atBoundary ⟨running, stage⟩⟩
    · exact ⟨runToBoundary 6 s, by simp [step, running, stage]⟩

/-- Settles O8, by the decision of the boundary for the number of machine cycles, and by whether the CPU's part stops the
machine for what a machine cycle is. -/
theorem stepIsTheTabledMachineCycles : Obligations.StepIsTheTabledMachineCycles :=
  ⟨fun _ => step_of_atBoundary, fun _ running => ⟨systemStep_of_running running, systemStep_of_stopping running⟩,
    fun _ => systemStep_of_fatal, step_answers⟩

/-! ### The construction of a machine -/

/-- A ROM image as byte storage: its bytes in order, and `unlistedByte` past its end. -/
theorem Memory.read_image (image : List Byte) (a : Nat) :
    (Memory.writeAll [] 0x0000 image).read a = image.getD a 0 := by
  by_cases h : a < image.length
  · rw [List.getD_eq_getElem _ _ h, ← Memory.read_writeAll_inside image [] 0 a h, Nat.zero_add]
  · rw [List.getD_eq_default _ _ (by omega), Memory.read_writeAll_outside _ _ _ _ (by omega), Memory.read_nil]
    rfl

/-- An image of a ROM's size is storage in canonical form at the addresses of the ROM. -/
theorem Memory.image_inv {image : List Byte} {size : Nat} (h : image.length = size) :
    (Memory.writeAll [] 0x0000 image).Inv fun a => decide (a < size) :=
  (Memory.Inv.nil _).writeAll image fun k _ hk => by simp; omega

/-- Below 0x8000 the bus reads the cartridge, or while the latch is clear the boot ROM at the lowest 256 addresses
(20_memory.md R71, R87). -/
theorem memRead_rom {s : State} {a : Word} (h : a.toNat < 32768) :
    memRead s a = if a.toNat ≤ 0x00FF ∧ s.bus.bootOff = false then s.bootRom.read a.toNat else s.cartRom.read a.toNat := by
  have rom : regionOf a = .rom := if_pos (by omega)
  rw [memRead, rom]

theorem Cpu.reset_inv : Cpu.reset.Inv := ⟨by decide, nofun, rfl⟩

theorem Ppu.reset_inv (vblankLyCounts : Bool) : Ppu.reset.Inv vblankLyCounts where
  off_iff := ⟨fun _ => rfl, fun _ => rfl⟩
  stat_mode := rfl
  dots_multiple := rfl
  dots_bound := fun on => absurd rfl on
  dots_off := fun _ => rfl
  ly_fits := Nat.zero_le 153
  objects := Nat.zero_le 10

/-- The machine of a run from its images and parameters (00_scope.md R6). -/
def State.ofImages (boot cart : List Byte) (params : Params) : State :=
  { State.reset with
    bootRom := Memory.writeAll [] 0x0000 boot
    cartRom := Memory.writeAll [] 0x0000 cart
    params := params }

theorem construct_of_sizes {boot cart : List Byte} (params : Params) (hb : boot.length = bootRomSize)
    (hc : cart.length = cartRomSize) : State.construct boot cart params = .ok (State.ofImages boot cart params) :=
  if_pos (by simp [romImagesFit, hb, hc])

theorem construct_of_other_size {boot cart : List Byte} (params : Params)
    (h : boot.length ≠ bootRomSize ∨ cart.length ≠ cartRomSize) :
    State.construct boot cart params = .error .malformedRom :=
  if_neg (by simp [romImagesFit]; tauto)

theorem State.ofImages_inv {boot cart : List Byte} (params : Params) (hb : boot.length = bootRomSize)
    (hc : cart.length = cartRomSize) : (State.ofImages boot cart params).Inv where
  cpu := Cpu.reset_inv
  ppu := Ppu.reset_inv params.vblankLyCounts
  div_multiple := rfl
  mem := Memory.Inv.nil _
  bootRom := Memory.image_inv hb
  cartRom := Memory.image_inv hc

/-- A constructed machine reads its boot image at the lowest 256 addresses. -/
theorem memRead_ofImages_boot (boot cart : List Byte) (params : Params) {a : Word} (h : a.toNat < 256) :
    memRead (State.ofImages boot cart params) a = boot.getD a.toNat 0 := by
  rw [memRead_rom (by omega), if_pos ⟨by omega, rfl⟩]
  exact Memory.read_image boot a.toNat

/-- A constructed machine reads its cartridge image in the rest of ROM. -/
theorem memRead_ofImages_cart (boot cart : List Byte) (params : Params) {a : Word} (low : 256 ≤ a.toNat)
    (h : a.toNat < 32768) : memRead (State.ofImages boot cart params) a = cart.getD a.toNat 0 := by
  rw [memRead_rom h, if_neg (by omega)]
  exact Memory.read_image cart a.toNat

/-- Settles O13, by whether the images have the sizes of 00_scope.md R6. -/
theorem constructedMachineHasTheInvariant : Obligations.ConstructedMachineHasTheInvariant :=
  ⟨fun boot cart p hb hc => ⟨State.ofImages boot cart p, construct_of_sizes p hb hc, State.ofImages_inv p hb hc, rfl, rfl,
      fun _ => memRead_ofImages_boot boot cart p, fun _ => memRead_ofImages_cart boot cart p,
      fun a _ => Memory.read_image cart a⟩,
    fun _ _ p => construct_of_other_size p⟩

/-! ### The end of a machine cycle -/

theorem hostTurn_of_no_change {s : State} (h : s.hostQueue = []) : hostTurn s = s := by
  simp [hostTurn, h]

theorem hostTurn_of_changes {s : State} {changes : List LineChange} {rest : List (List LineChange)}
    (h : s.hostQueue = changes :: rest) : hostTurn s = changes.foldl joypadSet { s with hostQueue := rest } := by
  simp [hostTurn, h]

/-- The devices and the host clear no pending bit. -/
theorem DevicePart.keeps_pending {s t : State} (h : DevicePart s t) {k : Nat} (pending : s.irq.iflag.getLsbD k = true) :
    t.irq.iflag.getLsbD k = true := by
  rw [← h.iflag, BitVec.getLsbD_and, Bool.and_eq_true] at pending
  exact pending.2

/-- Settles O25, by what the end of a machine cycle leaves (`endCycle_devicePart`). -/
theorem devicesOnlyRaiseRequests : Obligations.DevicesOnlyRaiseRequests := fun s =>
  have part := endCycle_devicePart s
  ⟨rfl, hostTurn_of_no_change, fun _ _ => hostTurn_of_changes, fun _ => part.keeps_pending, part.serial, part.ie, part.mem,
    part.cpu⟩

end Sys2Proof.Machine
end

section
/-! PROOF. The CPU's part of a machine cycle (60_exceptions.md R360): which cycle it runs, and what that cycle leaves of the
CPU's control state and of the rest of the machine. -/

namespace Sys2Proof.Machine

/-! ### Cycles that leave the machine sound -/

/-- Any CPU at stage 0 with the `di` latch clear has the invariant of the control state. -/
theorem Cpu.inv_of_stage_zero {c : Cpu} (stage : c.stage = 0) (di : c.di = false) : c.Inv :=
  ⟨by omega, fun _ => stage, di⟩

/-- A cycle of an awake CPU leaves it awake in the same stage if the instruction goes on, and leaves the invariant of the
control state if it retires or stops the machine (10_state.md R31, R32, R35). -/
def ControlSound (c : Cycle) : Prop :=
  ∀ s, s.cpu.Inv → s.cpu.halted = false → match c s with
    | .more t => t.cpu.stage = s.cpu.stage ∧ t.cpu.halted = false ∧ t.cpu.di = false
    | .done t => t.cpu.Inv

/-- A cycle that stops the machine changes the CPU alone (60_exceptions.md R351). -/
def StopsAlone (c : Cycle) : Prop :=
  ∀ s, s.cpu.fatal = none → (c s).state.cpu.fatal ≠ none → (c s).state = s.withCpu (c s).state.cpu

/-- What every machine cycle of an instruction or a dispatch satisfies. -/
structure CycleSound (c : Cycle) : Prop where
  devices : ∀ s, CpuPart s (c s).state
  control : ControlSound c
  stops : StopsAlone c

theorem controlSound_last {f : State → State} (h : ∀ s, s.cpu.Inv → s.cpu.halted = false → (f s).cpu.Inv) :
    ControlSound (last f) := h

theorem PlainCycle.controlSound {c : Cycle} (h : PlainCycle c) : ControlSound c := by
  intro s inv awake
  have kept := h s
  cases e : c s with
  | more t =>
    rw [e] at kept
    obtain ⟨⟨-, halted, -, -, -, di⟩, stage⟩ := kept
    exact ⟨stage, halted.trans awake, di inv.no_di⟩
  | done t =>
    rw [e] at kept
    obtain ⟨⟨-, -, -, -, -, di⟩, stage⟩ := kept
    exact Cpu.inv_of_stage_zero stage (di inv.no_di)

theorem PlainCycle.fatal_eq {c : Cycle} (h : PlainCycle c) (s : State) : (c s).state.cpu.fatal = s.cpu.fatal := by
  have kept := h s
  cases e : c s with
  | more t =>
    rw [e] at kept
    obtain ⟨⟨-, -, fatal, -⟩, -⟩ := kept
    exact fatal
  | done t =>
    rw [e] at kept
    obtain ⟨⟨-, -, fatal, -⟩, -⟩ := kept
    exact fatal

theorem PlainCycle.stopsAlone {c : Cycle} (h : PlainCycle c) : StopsAlone c := fun s running stops =>
  absurd ((h.fatal_eq s).trans running) stops

theorem CpuOnly.stopsAlone {c : Cycle} (h : CpuOnly c) : StopsAlone c := fun s _ _ => h s

theorem idle_sound : CycleSound idle :=
  ⟨fun s => CpuPart.ofCpu s _, plainCycle_idle.controlSound, cpuOnly_idle.stopsAlone⟩

theorem stop_inv {s : State} (inv : s.cpu.Inv) : (stop s).cpu.Inv := by
  unfold stop
  cases s.params.stopMode
  · exact Cpu.inv_of_stage_zero rfl rfl
  · exact ⟨inv.stage_bound, inv.halted_boundary, inv.no_di⟩

/-- An undefined byte keeps the stage, `halted` and the latches (46_system.md R288). -/
theorem undefined_controlSound (op : Byte) : ∀ c ∈ undefinedCycles op, ControlSound c :=
  List.forall_mem_singleton.2 (controlSound_last fun _ inv _ => ⟨inv.stage_bound, inv.halted_boundary, inv.no_di⟩)

theorem reti_controlSound : ∀ c ∈ retiCycles, ControlSound c := by
  simp only [retiCycles, returnCycles, List.forall_mem_cons, List.not_mem_nil, false_implies, implies_true, and_true]
  exact ⟨plainCycle_idle.controlSound, fun _ inv awake => ⟨rfl, awake, inv.no_di⟩,
    fun _ inv awake => ⟨rfl, awake, inv.no_di⟩, fun _ _ _ => Cpu.inv_of_stage_zero rfl rfl⟩

/-- The cycles of the instructions about the control state, which are not plain, keep its invariant too. -/
theorem aboutControl_controlSound {i : Instr} (h : Instr.aboutControl i = true) : ∀ c ∈ cyclesOf i, ControlSound c := by
  cases i
  case reti => exact reti_controlSound
  case stop => exact List.forall_mem_singleton.2 (controlSound_last fun _ inv _ => stop_inv inv)
  case halt | di | ei =>
    exact List.forall_mem_singleton.2 (controlSound_last fun _ _ _ => Cpu.inv_of_stage_zero rfl rfl)
  case illegal_d3 | illegal_db | illegal_dd | illegal_e3 | illegal_e4 | illegal_eb | illegal_ec | illegal_ed |
      illegal_f4 | illegal_fc | illegal_fd =>
    exact undefined_controlSound _
  all_goals cases h

theorem cyclesOf_controlSound (i : Instr) : ∀ c ∈ cyclesOf i, ControlSound c := by
  cases h : Instr.aboutControl i
  · exact fun c hc => (cyclesOf_plain i h c hc).controlSound
  · exact aboutControl_controlSound h

theorem aboutControl_of_storing {i : Instr} (h : Instr.storing i = true) : Instr.aboutControl i = false := by
  cases i <;> first | rfl | cases h

/-- An instruction that stores to memory is plain and does not stop the machine; any other changes the CPU alone. -/
theorem cyclesOf_stopsAlone (i : Instr) : ∀ c ∈ cyclesOf i, StopsAlone c := by
  cases h : Instr.storing i
  · exact fun c hc => (cyclesOf_cpuOnly i h c hc).stopsAlone
  · exact fun c hc => (cyclesOf_plain i (aboutControl_of_storing h) c hc).stopsAlone

theorem cyclesOf_sound (i : Instr) : ∀ c ∈ cyclesOf i, CycleSound c := fun c hc =>
  ⟨cyclesOf_keeps i c hc, cyclesOf_controlSound i c hc, cyclesOf_stopsAlone i c hc⟩

/-! ### The cycles of a dispatch -/

theorem acceptInterrupt_cpuPart (k : Source) (s : State) : CpuPart s (acceptInterrupt k s) :=
  ⟨rfl, rfl, rfl, rfl, rfl, rfl, rfl, rfl, rfl, rfl, rfl, rfl, rfl, .inl rfl, id, id⟩

theorem dispatchCycles_keeps (k : Source) : KeepsDevices (dispatchCycles k) :=
  keepsDevices_going (acceptInterrupt_cpuPart k) <| (keepsDevices_idle _).2 <|
    keepsDevices_going (fun s => pushByte_cpuPart s _) <| keepsDevices_going (fun s => pushByte_cpuPart s _) <|
      keepsDevices_lastCpu _ fun _ => rfl

/-- A push inside a dispatch. -/
theorem plainCycle_push (v : State → Byte) : PlainCycle (going fun s => pushByte s (v s)) :=
  plainCycle_going.2 fun s => by simp [ControlKept]

/-- The terminal cycle of a dispatch, and that of a stage past the plan (log 10). -/
theorem plainCycle_retire (target : State → Word) : PlainCycle (last fun s => s.retire (target s)) :=
  plainCycle_last.2 fun s => by simp [ControlKept]

theorem dispatchCycles_controlSound (k : Source) : ∀ c ∈ dispatchCycles k, ControlSound c := by
  simp only [dispatchCycles, List.forall_mem_cons, List.not_mem_nil, false_implies, implies_true, and_true]
  exact ⟨fun _ inv awake => ⟨rfl, awake, inv.no_di⟩, plainCycle_idle.controlSound, (plainCycle_push _).controlSound,
    (plainCycle_push _).controlSound, (plainCycle_retire _).controlSound⟩

theorem dispatchCycles_stopsAlone (k : Source) : ∀ c ∈ dispatchCycles k, StopsAlone c := by
  simp only [dispatchCycles, List.forall_mem_cons, List.not_mem_nil, false_implies, implies_true, and_true]
  exact ⟨fun _ running stops => absurd running stops, plainCycle_idle.stopsAlone, (plainCycle_push _).stopsAlone,
    (plainCycle_push _).stopsAlone, (plainCycle_retire _).stopsAlone⟩

theorem dispatchCycles_sound (k : Source) : ∀ c ∈ dispatchCycles k, CycleSound c := fun c hc =>
  ⟨dispatchCycles_keeps k c hc, dispatchCycles_controlSound k c hc, dispatchCycles_stopsAlone k c hc⟩

/-! ### A cycle by its number -/

/-- A cycle by its number is sound in a sound list; past the list's end the instruction retires in place (log 10). -/
theorem nthCycle_sound {cs : List Cycle} (h : ∀ c ∈ cs, CycleSound c) (k : Nat) : CycleSound (nthCycle cs k) := by
  unfold nthCycle
  cases e : cs[k]? with
  | some c => exact h c (List.mem_of_getElem? e)
  | none =>
    exact ⟨fun s => CpuPart.ofCpu s _, (plainCycle_retire _).controlSound, (plainCycle_retire _).stopsAlone⟩

/-- After a cycle that goes on another one is left. -/
theorem lt_length_of_nthCycle_more {cs : List Cycle} (terminal : ∀ s, ∀ c ∈ cs.getLast?, ∃ t, c s = .done t) {k : Nat}
    {s t : State} (h : nthCycle cs k s = .more t) : k + 1 < cs.length := by
  unfold nthCycle at h
  cases e : cs[k]? with
  | none =>
    rw [e] at h
    cases h
  | some c =>
    rw [e] at h
    obtain ⟨inside, -⟩ := List.getElem?_eq_some_iff.1 e
    by_contra past
    have final : c ∈ cs.getLast? := by
      rw [List.getLast?_eq_getElem?, show cs.length - 1 = k by omega, e]
      rfl
    obtain ⟨u, hu⟩ := terminal s c final
    cases hu.symm.trans h

/-- No instruction has more than six machine cycles (70_reset_and_hazards.md R421). -/
theorem reads_add_cyclesOf_length (i : Instr) : Instr.reads i + (cyclesOf i).length ≤ 6 := by
  cases i <;> exact Nat.le_of_ble_eq_true rfl

/-! ### The cycle a stage runs -/

/-- The state in which a stage runs its cycle: only the CPU differs, and its stage, `fatal` and a clear `di` latch are kept;
it may have woken. -/
structure Prepared (s t : State) : Prop where
  cpuOnly : t = s.withCpu t.cpu
  fatal : t.cpu.fatal = s.cpu.fatal
  stage : t.cpu.stage = s.cpu.stage
  halted : t.cpu.halted = true → s.cpu.halted = true
  di : s.cpu.di = false → t.cpu.di = false

theorem Prepared.refl (s : State) : Prepared s s := ⟨rfl, rfl, rfl, id, id⟩

theorem Prepared.trans {s t u : State} (h : Prepared s t) (g : Prepared t u) : Prepared s u where
  cpuOnly := by
    rw [g.cpuOnly, h.cpuOnly]
    rfl
  fatal := g.fatal.trans h.fatal
  stage := g.stage.trans h.stage
  halted := h.halted ∘ g.halted
  di := g.di ∘ h.di

theorem Prepared.awake {s t : State} (h : Prepared s t) (awake : s.cpu.halted = false) : t.cpu.halted = false :=
  Bool.eq_false_iff.2 fun e => Bool.eq_false_iff.1 awake (h.halted e)

theorem Prepared.inv {s t : State} (h : Prepared s t) (inv : s.cpu.Inv) : t.cpu.Inv :=
  ⟨h.stage ▸ inv.stage_bound, fun e => h.stage ▸ inv.halted_boundary (h.halted e), h.di inv.no_di⟩

theorem Prepared.cpuPart {s t : State} (h : Prepared s t) : CpuPart s t := by
  rw [h.cpuOnly]
  exact CpuPart.ofCpu s _

theorem readOperand_prepared (k : Nat) (s : State) : Prepared s (readOperand k s) := by
  unfold readOperand
  split <;> exact ⟨rfl, rfl, rfl, id, id⟩

/-- What a stage does is a sound cycle, run in a prepared state, and it goes on only before stage 5. -/
def RunsCycle (s : State) (p : Phase) : Prop :=
  ∃ c t, CycleSound c ∧ Prepared s t ∧ p = c t ∧ ∀ u, c t = .more u → s.cpu.stage < 5

/-- Stage `stage` of an opcode: the read of an operand byte with another to come, or a cycle of the instruction. -/
theorem runOpcode_cycle (op : Byte) {s : State} (ir : s.cpu.ir = .opcode op) : RunsCycle s (runOpcode op s) := by
  have few := operandReads_le op
  unfold runOpcode
  dsimp only
  generalize e :
    (if s.cpu.stage = 0 then s else if s.cpu.stage ≤ operandReads op then readOperand s.cpu.stage s else s) = t
  have prepared : Prepared s t := by
    rw [← e]
    split
    · exact Prepared.refl s
    · split
      · exact readOperand_prepared _ s
      · exact Prepared.refl s
  split
  · exact ⟨idle, t, idle_sound, prepared, rfl, fun _ _ => by omega⟩
  · refine ⟨_, t, nthCycle_sound (cyclesOf_sound t.latched) _, prepared, rfl, fun u more => ?_⟩
    have left := lt_length_of_nthCycle_more (terminal_of_terminates (cyclesOf_terminates t.latched)) more
    have six := reads_add_cyclesOf_length t.latched
    have ir' : t.cpu.ir = .opcode op := by
      rw [← e, readOperand]
      split_ifs <;> exact ir
    have reads : Instr.reads t.latched = operandReads op := by
      rw [State.latched, ir']
      exact (instrOf_shape _ _ _).2.2
    omega

theorem dispatchCycles_terminal (k : Source) (s : State) : ∀ c ∈ (dispatchCycles k).getLast?, ∃ t, c s = .done t := by
  rintro c hc
  cases hc
  exact ⟨_, rfl⟩

theorem runStage_cycle (s : State) : RunsCycle s (runStage s) := by
  unfold runStage
  cases e : s.cpu.ir with
  | opcode op => exact runOpcode_cycle op e
  | int k =>
    refine ⟨_, s, nthCycle_sound (dispatchCycles_sound k) _, Prepared.refl s, rfl, fun u more => ?_⟩
    have left : s.cpu.stage + 1 < 5 := lt_length_of_nthCycle_more (dispatchCycles_terminal k) more
    omega

theorem runStage_cpuPart (s : State) : CpuPart s (runStage s).state := by
  obtain ⟨c, t, sound, prepared, e, -⟩ := runStage_cycle s
  rw [e]
  exact prepared.cpuPart.trans (sound.devices t)

/-- A stage of an awake CPU keeps the invariant of the control state. -/
theorem runStage_inv {s : State} (inv : s.cpu.Inv) (awake : s.cpu.halted = false) : (runStage s).state.cpu.Inv := by
  obtain ⟨c, t, sound, prepared, e, room⟩ := runStage_cycle s
  have kept := sound.control t (prepared.inv inv) (prepared.awake awake)
  rw [e]
  cases phase : c t with
  | more u =>
    rw [phase] at kept
    obtain ⟨stage, halted, di⟩ := kept
    have early := room u phase
    rw [← prepared.stage, ← stage] at early
    exact ⟨early, fun asleep => absurd asleep (Bool.eq_false_iff.1 halted), di⟩
  | done u =>
    rw [phase] at kept
    exact kept

/-- A stage that stops the machine changes the CPU alone. -/
theorem runStage_stops {s : State} (running : s.cpu.fatal = none) (stops : (runStage s).state.cpu.fatal ≠ none) :
    (runStage s).state = s.withCpu (runStage s).state.cpu := by
  obtain ⟨c, t, sound, prepared, e, -⟩ := runStage_cycle s
  rw [e] at stops ⊢
  rw [sound.stops t (prepared.fatal.trans running) stops, prepared.cpuOnly]
  rfl

/-! ### `CpuStep` -/

theorem wakeIfHalted_prepared (s : State) : Prepared s (wakeIfHalted s) := by
  unfold wakeIfHalted wake
  split <;> exact ⟨rfl, rfl, rfl, by simp, id⟩

theorem wakeIfHalted_awake (s : State) : (wakeIfHalted s).cpu.halted = false := by
  unfold wakeIfHalted wake
  split
  · rfl
  · simp_all

theorem applyEi_prepared (s : State) : Prepared s (applyEi s) := by
  unfold applyEi
  split <;> exact ⟨rfl, rfl, rfl, id, id⟩

theorem applyDi_prepared (s : State) : Prepared s (applyDi s) := by
  unfold applyDi
  split
  · exact ⟨rfl, rfl, rfl, id, fun _ => rfl⟩
  · exact Prepared.refl s

/-- `CpuStep` leaves a sleeping CPU as it is, or it runs a stage, of a CPU that is awake. -/
theorem cpuStep_cases (s : State) :
    cpuStep s = s ∨
      ∃ t, Prepared s t ∧ (s.cpu.Inv → t.cpu.halted = false) ∧ cpuStep s = (runStage t).state := by
  by_cases stage : s.cpu.stage = 0
  case neg =>
    refine .inr ⟨s, Prepared.refl s, fun inv => ?_, by simp only [cpuStep, ne_eq, stage, not_false_eq_true, if_true]⟩
    exact Bool.eq_false_iff.2 fun asleep => stage (inv.halted_boundary asleep)
  case pos =>
    have woken := wakeIfHalted_prepared s
    cases h : boundary s with
    | asleep => exact .inl (by simp only [cpuStep, ne_eq, stage, not_true_eq_false, if_false, h])
    | dispatch k s' =>
      obtain ⟨rfl, -⟩ := boundary_dispatch h
      exact .inr ⟨latchDispatch k (wakeIfHalted s), woken.trans ⟨rfl, rfl, rfl, id, id⟩,
        fun _ => wakeIfHalted_awake s, by simp only [cpuStep, ne_eq, stage, not_true_eq_false, if_false, h]⟩
    | fetch s' =>
      obtain ⟨rfl, -⟩ := boundary_fetch h
      have latched := (applyEi_prepared (wakeIfHalted s)).trans (applyDi_prepared _)
      have fetched : Prepared _ (fetchOpcode (applyDi (applyEi (wakeIfHalted s)))) :=
        latched.trans ⟨rfl, rfl, rfl, id, id⟩
      exact .inr ⟨_, woken.trans fetched, fun _ => fetched.awake (wakeIfHalted_awake s),
        by simp only [cpuStep, ne_eq, stage, not_true_eq_false, if_false, h]⟩

/-- What the CPU's part of a machine cycle cannot change. -/
theorem cpuStep_cpuPart (s : State) : CpuPart s (cpuStep s) := by
  rcases cpuStep_cases s with e | ⟨t, prepared, -, e⟩ <;> rw [e]
  · exact CpuPart.refl s
  · exact prepared.cpuPart.trans (runStage_cpuPart t)

theorem cpuStep_inv {s : State} (inv : s.cpu.Inv) : (cpuStep s).cpu.Inv := by
  rcases cpuStep_cases s with e | ⟨t, prepared, awake, e⟩ <;> rw [e]
  · exact inv
  · exact runStage_inv (prepared.inv inv) (awake inv)

/-- A CPU part that stops the machine changes the CPU alone. -/
theorem cpuStep_stops {s : State} (running : s.cpu.fatal = none) (stops : (cpuStep s).cpu.fatal ≠ none) :
    cpuStep s = s.withCpu (cpuStep s).cpu := by
  rcases cpuStep_cases s with e | ⟨t, prepared, -, e⟩ <;> rw [e] at stops ⊢
  · rfl
  · rw [runStage_stops (prepared.fatal.trans running) stops, prepared.cpuOnly]
    rfl

end Sys2Proof.Machine
end

section
/-! PROOF. The end of a machine cycle keeps the invariant: the PPU's mode machine with LY and `line_objs` (50_ppu.md R302 to
R315), the timer's counter, and the host's turn. -/

namespace Sys2Proof.Machine

/-! ### The object search finds at most ten entries (50_ppu.md R314) -/

theorem insertByX_length (s : State) (i : Fin 40) (is : List (Fin 40)) : (insertByX s i is).length = is.length + 1 := by
  induction is with
  | nil => rfl
  | cons j js ih =>
    unfold insertByX
    split
    · rfl
    · simp [ih]

theorem foldl_insertByX_length (s : State) (is sorted : List (Fin 40)) :
    (is.foldl (fun sorted i => insertByX s i sorted) sorted).length = sorted.length + is.length := by
  induction is generalizing sorted with
  | nil => rfl
  | cons i is ih =>
    rw [List.foldl_cons, ih, insertByX_length, List.length_cons]
    omega

theorem objectSearch_length (s : State) : (objectSearch s).length ≤ 10 := by
  rw [objectSearch, List.length_reverse, sortByX, foldl_insertByX_length, List.length_take]
  simp

/-! ### The invariant of the PPU while LCDC may just have been written -/

/-- The invariant of the PPU without its tie of Off to LCDC bit 7, which the CPU may have written in this machine cycle and
`PpuAdvance` restores. -/
structure Ppu.Steady (p : Ppu) (vblankLyCounts : Bool) : Prop where
  stat_mode : p.statMode = p.mode.code
  dots_multiple : p.dots % 4 = 0
  dots_bound : p.mode ≠ .off → p.dots < p.mode.dots
  dots_off : p.mode = .off → p.dots = 0
  ly_fits : p.lyFits vblankLyCounts
  objects : p.lineObjs.length ≤ 10

theorem Ppu.Inv.steady {p : Ppu} {v : Bool} (h : p.Inv v) : p.Steady v :=
  ⟨h.stat_mode, h.dots_multiple, h.dots_bound, h.dots_off, h.ly_fits, h.objects⟩

/-- With the LCD on, the invariant is that of a mode other than Off. -/
theorem Ppu.Steady.inv_of_on {p : Ppu} {v : Bool} (h : p.Steady v) (on : p.lcdEn = true) (mode : p.mode ≠ .off) :
    p.Inv v :=
  ⟨⟨fun off => absurd off mode, fun disabled => by simp [on] at disabled⟩, h.stat_mode, h.dots_multiple, h.dots_bound,
    h.dots_off, h.ly_fits, h.objects⟩

theorem Ppu.lyFits_congr {p q : Ppu} (v : Bool) (mode : q.mode = p.mode) (dots : q.dots = p.dots) (ly : q.ly = p.ly) :
    q.lyFits v ↔ p.lyFits v := by
  unfold Ppu.lyFits
  rw [mode, dots, ly]

/-- The registers the CPU writes are no part of the PPU's invariant, but for LCDC bit 7. -/
theorem CpuPart.steady {s t : State} (h : CpuPart s t) {v : Bool} (steady : s.ppu.Steady v) : t.ppu.Steady v where
  stat_mode := by rw [h.statMode, h.mode, steady.stat_mode]
  dots_multiple := by rw [h.dots, steady.dots_multiple]
  dots_bound := by
    rw [h.mode, h.dots]
    exact steady.dots_bound
  dots_off := by
    rw [h.mode, h.dots]
    exact steady.dots_off
  ly_fits := (Ppu.lyFits_congr v h.mode h.dots h.ly).2 steady.ly_fits
  objects := by
    rw [h.lineObjs]
    exact steady.objects

theorem Ppu.lyFits_mode1 {p : Ppu} {v : Bool} (mode : p.mode = .mode1) :
    p.lyFits v ↔ p.ly.toNat = if v then 144 + p.dots / 456 else 144 := by
  unfold Ppu.lyFits
  rw [mode]

/-- LY is a line of the picture in every mode that draws one (50_ppu.md R305). -/
theorem Ppu.lyFits_visible {p : Ppu} {v : Bool} (mode : p.mode = .mode0 ∨ p.mode = .mode2 ∨ p.mode = .mode3) :
    p.lyFits v ↔ p.ly.toNat ≤ 143 := by
  unfold Ppu.lyFits
  rcases mode with mode | mode | mode <;> rw [mode]

/-- LY never leaves 0 to 153 (50_ppu.md R308). -/
theorem Ppu.Steady.ly_le {p : Ppu} {v : Bool} (h : p.Steady v) : p.ly.toNat ≤ 153 := by
  have fits := h.ly_fits
  have bound := h.dots_bound
  unfold Ppu.lyFits at fits
  cases mode : p.mode <;> rw [mode] at fits bound
  case off => exact fits
  case mode1 =>
    have below : p.dots < 4560 := bound (by decide)
    cases v <;> simp only [Bool.false_eq_true, if_false, if_true] at fits <;> omega
  all_goals exact Nat.le_trans fits (by decide)

/-! ### Mode changes and counting -/

/-- A mode change begins the mode at dot 0 and shows it in STAT (50_ppu.md R310). -/
theorem enterMode_begins (m : PpuMode) (s : State) :
    (enterMode m s).ppu.dots = 0 ∧ (enterMode m s).ppu.statMode = m.code := by
  simp [enterMode, statUpdate]

/-- A mode change with the LCD on keeps the invariant if LY fits the first dot of the mode. -/
theorem enterMode_inv {m : PpuMode} {s : State} {v : Bool} (on : s.ppu.lcdEn = true) (hm : m ≠ .off)
    (fits : ({ s.ppu with mode := m, dots := 0 } : Ppu).lyFits v) (objects : s.ppu.lineObjs.length ≤ 10) :
    (enterMode m s).ppu.Inv v := by
  obtain ⟨mode, ly, lineObjs, -⟩ := enterMode_leaves m s
  obtain ⟨dots, code⟩ := enterMode_begins m s
  have positive : 0 < m.dots := by cases m <;> first | contradiction | decide
  refine Ppu.Steady.inv_of_on ⟨?_, ?_, ?_, ?_, ?_, ?_⟩ ?_ (by rw [mode]; exact hm)
  · rw [code, mode]
  · rw [dots]
  · rw [dots, mode]
    exact fun _ => positive
  · exact fun _ => dots
  · exact (Ppu.lyFits_congr (p := { s.ppu with mode := m, dots := 0 }) v mode dots ly).2 fits
  · rw [lineObjs]
    exact objects
  · rw [Ppu.lcdEn, (enterMode_devicePart m s).lcdc]
    exact on

theorem drawLine_ly (s : State) : (drawLine s).ppu.ly = s.ppu.ly := by
  unfold drawLine
  split <;> rfl

/-- The one thing LY's counting inside Mode1 writes is LY. -/
theorem countVblankLines_eq (d : Nat) (s : State) : countVblankLines d s = setLy (countVblankLines d s).ppu.ly s := by
  unfold countVblankLines
  split <;> rfl

/-- LY inside Mode1 is the line its dot belongs to, or stays 144 (50_ppu.md R309): at a dot that is no multiple of 456 the
line is that of the dot four before. -/
theorem countVblankLines_fits {s : State} {d : Nat} (before : d % 4 = 0) (inside : d + 4 < 4560)
    (fits : s.ppu.ly.toNat = if s.params.vblankLyCounts then 144 + d / 456 else 144) :
    (countVblankLines (d + 4) s).ppu.ly.toNat = if s.params.vblankLyCounts then 144 + (d + 4) / 456 else 144 := by
  unfold countVblankLines
  cases counts : s.params.vblankLyCounts
  · simpa [counts] using fits
  · rw [counts, if_pos rfl] at fits
    by_cases first : (d + 4) % 456 = 0
    · rw [if_pos (by simp [inside, first]), if_pos rfl]
      show (BitVec.ofNat 8 (144 + (d + 4) / 456)).toNat = _
      rw [BitVec.toNat_ofNat]
      omega
    · rw [if_neg (by simp [first]), if_pos rfl, fits]
      omega

/-! ### `PpuAdvance` mode by mode -/

section
variable {s : State} {v : Bool} (on : s.ppu.lcdEn = true) (steady : s.ppu.Steady v)
include steady

/-- In Off, `line_objs` and LY stay what they were (50_ppu.md R306). -/
theorem ppuOff_inv (disabled : s.ppu.lcdEn = false) : (ppuOff s).ppu.Inv v where
  off_iff := ⟨fun _ => disabled, fun _ => rfl⟩
  stat_mode := rfl
  dots_multiple := rfl
  dots_bound := fun running => absurd rfl running
  dots_off := fun _ => rfl
  ly_fits := steady.ly_le
  objects := steady.objects

include on

/-- Four more dots inside a mode that draws a line. -/
theorem setDots_inv (mode : s.ppu.mode = .mode0 ∨ s.ppu.mode = .mode2 ∨ s.ppu.mode = .mode3)
    (inside : s.ppu.dots + 4 < s.ppu.mode.dots) : (setDots (s.ppu.dots + 4) s).ppu.Inv v := by
  have running : s.ppu.mode ≠ .off := by rcases mode with mode | mode | mode <;> rw [mode] <;> decide
  have multiple : (s.ppu.dots + 4) % 4 = 0 := by rw [Nat.add_mod_right, steady.dots_multiple]
  have fits : (setDots (s.ppu.dots + 4) s).ppu.lyFits v :=
    (Ppu.lyFits_visible (p := (setDots (s.ppu.dots + 4) s).ppu) mode).2 ((Ppu.lyFits_visible mode).1 steady.ly_fits)
  exact Ppu.Steady.inv_of_on
    ⟨steady.stat_mode, multiple, fun _ => inside, fun off => absurd off running, fits, steady.objects⟩ on running

theorem advanceMode2_inv (mode : s.ppu.mode = .mode2) : (advanceMode2 s).ppu.Inv v := by
  unfold advanceMode2
  split
  case isTrue =>
    have visible : s.ppu.ly.toNat ≤ 143 := (Ppu.lyFits_visible (.inr (.inl mode))).1 steady.ly_fits
    exact enterMode_inv on (by decide) visible (objectSearch_length s)
  case isFalse inside =>
    exact setDots_inv on steady (.inr (.inl mode)) (by rw [mode]; exact Nat.lt_of_not_le inside)

theorem advanceMode3_inv (mode : s.ppu.mode = .mode3) : (advanceMode3 s).ppu.Inv v := by
  unfold advanceMode3
  split
  case isTrue =>
    have drawn_on : (drawLine s).ppu.lcdEn = true := by
      rw [Ppu.lcdEn, (drawLine_devicePart s).lcdc]
      exact on
    have visible : (drawLine s).ppu.ly.toNat ≤ 143 := by
      rw [drawLine_ly]
      exact (Ppu.lyFits_visible (.inr (.inr mode))).1 steady.ly_fits
    exact enterMode_inv drawn_on (by decide) visible (by rw [(drawLine_leaves s).1]; exact steady.objects)
  case isFalse inside =>
    exact setDots_inv on steady (.inr (.inr mode)) (by rw [mode]; exact Nat.lt_of_not_le inside)

/-- At the exit of Mode0, LY goes on to a visible line or to 144, the first line of Mode1 (50_ppu.md R305, R312). -/
theorem leaveMode0_inv (mode : s.ppu.mode = .mode0) : (leaveMode0 s).ppu.Inv v := by
  have visible : s.ppu.ly.toNat ≤ 143 := (Ppu.lyFits_visible (.inl mode)).1 steady.ly_fits
  unfold leaveMode0
  dsimp only
  split
  case isTrue vblank =>
    have fits : (s.ppu.ly + 1).toNat = if v then 144 + 0 / 456 else 144 := by
      rw [vblank]
      cases v <;> rfl
    exact enterMode_inv on (by decide) fits steady.objects
  case isFalse other =>
    have next : (s.ppu.ly + 1).toNat ≤ 143 := by bv_omega
    exact enterMode_inv on (by decide) next steady.objects

theorem advanceMode0_inv (mode : s.ppu.mode = .mode0) : (advanceMode0 s).ppu.Inv v := by
  unfold advanceMode0
  split
  case isTrue => exact leaveMode0_inv on steady mode
  case isFalse inside => exact setDots_inv on steady (.inl mode) (by rw [mode]; exact Nat.lt_of_not_le inside)

theorem advanceMode1_inv (param : v = s.params.vblankLyCounts) (mode : s.ppu.mode = .mode1) :
    (advanceMode1 s).ppu.Inv v := by
  unfold advanceMode1
  split
  case isTrue => exact enterMode_inv (s := setLy 0 s) on (by decide) (Nat.zero_le 143) steady.objects
  case isFalse inside =>
    have running : s.ppu.mode ≠ .off := by rw [mode]; decide
    have below : s.ppu.dots + 4 < 4560 := Nat.lt_of_not_le inside
    have counted := countVblankLines_fits (s := setDots (s.ppu.dots + 4) s) steady.dots_multiple below
      (param ▸ (Ppu.lyFits_mode1 mode).1 steady.ly_fits)
    rw [countVblankLines_eq]
    refine Ppu.Steady.inv_of_on ⟨steady.stat_mode, ?_, fun _ => ?_, fun off => absurd off running, ?_, steady.objects⟩
      on running
    · exact (Nat.add_mod_right _ _).trans steady.dots_multiple
    · show s.ppu.dots + 4 < s.ppu.mode.dots
      rw [mode]
      exact below
    · rw [param]
      exact (Ppu.lyFits_mode1 (by exact mode)).2 counted

theorem ppuOn_inv (param : v = s.params.vblankLyCounts) : (ppuOn s).ppu.Inv v := by
  unfold ppuOn
  cases mode : s.ppu.mode with
  | off => exact enterMode_inv (s := setLy 0 s) on (by decide) (Nat.zero_le 143) steady.objects
  | mode0 => exact advanceMode0_inv on steady mode
  | mode1 => exact advanceMode1_inv on steady param mode
  | mode2 => exact advanceMode2_inv on steady mode
  | mode3 => exact advanceMode3_inv on steady mode

end

/-- `PpuAdvance` gives the PPU its invariant whatever the CPU has written to LCDC (50_ppu.md R304). -/
theorem ppuAdvance_inv {s : State} (steady : s.ppu.Steady s.params.vblankLyCounts) :
    (ppuAdvance s).ppu.Inv s.params.vblankLyCounts := by
  unfold ppuAdvance
  split
  case isTrue on => exact ppuOn_inv on steady rfl
  case isFalse disabled => exact ppuOff_inv steady (Bool.eq_false_iff.2 disabled)

/-! ### The timer's counter -/

theorem enterMode_timer (m : PpuMode) (s : State) : (enterMode m s).timer = s.timer := by
  simp [enterMode, statUpdate]

theorem drawLine_timer (s : State) : (drawLine s).timer = s.timer := by
  unfold drawLine
  split <;> rfl

theorem leaveMode0_timer (s : State) : (leaveMode0 s).timer = s.timer := by
  unfold leaveMode0
  dsimp only
  split <;> exact enterMode_timer _ _

theorem advanceMode0_timer (s : State) : (advanceMode0 s).timer = s.timer := by
  unfold advanceMode0
  split
  · exact leaveMode0_timer s
  · rfl

theorem advanceMode1_timer (s : State) : (advanceMode1 s).timer = s.timer := by
  unfold advanceMode1
  split
  · exact enterMode_timer _ _
  · rw [countVblankLines_eq]
    rfl

theorem advanceMode2_timer (s : State) : (advanceMode2 s).timer = s.timer := by
  unfold advanceMode2
  split
  · exact enterMode_timer _ _
  · rfl

theorem advanceMode3_timer (s : State) : (advanceMode3 s).timer = s.timer := by
  unfold advanceMode3
  split
  · exact (enterMode_timer _ _).trans (drawLine_timer s)
  · rfl

/-- The PPU does not touch the timer. -/
theorem ppuAdvance_timer (s : State) : (ppuAdvance s).timer = s.timer := by
  unfold ppuAdvance ppuOn
  split
  case isFalse => rfl
  case isTrue =>
    cases s.ppu.mode with
    | off => exact enterMode_timer _ _
    | mode0 => exact advanceMode0_timer s
    | mode1 => exact advanceMode1_timer s
    | mode2 => exact advanceMode2_timer s
    | mode3 => exact advanceMode3_timer s

theorem timerTick_div (s : State) : (timerTick s).timer.div = s.timer.div + 4 := by
  unfold timerTick
  dsimp only
  split
  · split <;> rfl
  · rfl

theorem timerTick_ppu (s : State) : (timerTick s).ppu = s.ppu := by
  unfold timerTick
  dsimp only
  split
  · split <;> rfl
  · rfl

/-! ### The host's turn -/

/-- A line change reaches the joypad and the interrupt flags only. -/
theorem joypadSet_leaves (s : State) (c : LineChange) :
    (joypadSet s c).ppu = s.ppu ∧ (joypadSet s c).timer = s.timer := by
  unfold joypadSet
  split <;> simp

theorem joypadSets_leave (cs : List LineChange) (s : State) :
    (cs.foldl joypadSet s).ppu = s.ppu ∧ (cs.foldl joypadSet s).timer = s.timer := by
  induction cs generalizing s with
  | nil => exact ⟨rfl, rfl⟩
  | cons c cs ih =>
    obtain ⟨ppu, timer⟩ := joypadSet_leaves s c
    obtain ⟨ppus, timers⟩ := ih (joypadSet s c)
    exact ⟨ppus.trans ppu, timers.trans timer⟩

theorem hostTurn_leaves (s : State) : (hostTurn s).ppu = s.ppu ∧ (hostTurn s).timer = s.timer := by
  unfold hostTurn
  split
  · exact ⟨rfl, rfl⟩
  · exact joypadSets_leave _ _

/-! ### The end of a machine cycle -/

theorem endCycle_ppu_inv {s : State} (steady : s.ppu.Steady s.params.vblankLyCounts) :
    (endCycle s).ppu.Inv s.params.vblankLyCounts := by
  rw [endCycle, (hostTurn_leaves _).1, deviceTick, ← (timerTick_devicePart s).params]
  refine ppuAdvance_inv ?_
  rw [timerTick_ppu, (timerTick_devicePart s).params]
  exact steady

theorem endCycle_div (s : State) : (endCycle s).timer.div = s.timer.div + 4 := by
  rw [endCycle, (hostTurn_leaves _).2, deviceTick, ppuAdvance_timer, timerTick_div]

end Sys2Proof.Machine
end

section
/-! PROOF. The state of the machine (10_state.md): the invariant every machine cycle and every step keeps, what no step
changes, and what the I/O registers read back. -/

namespace Sys2Proof.Machine

/-! ### The invariant of the machine -/

/-- Another CPU with the invariant of the control state. -/
theorem State.Inv.withCpu {s : State} (h : s.Inv) {c : Cpu} (inv : c.Inv) : (s.withCpu c).Inv :=
  ⟨inv, h.ppu, h.div_multiple, h.mem, h.bootRom, h.cartRom⟩

/-- The end of a machine cycle after a CPU part that goes on: `PpuAdvance` follows what the CPU wrote to LCDC, and the
timer's counter, which a write may have cleared, goes on by four (10_state.md R39). -/
theorem endCycle_inv {s t : State} (h : s.Inv) (inv : t.cpu.Inv) (part : CpuPart s t) : (endCycle t).Inv where
  cpu := by
    rw [endCycle_cpu]
    exact inv
  ppu := by
    rw [endCycle_params]
    refine endCycle_ppu_inv (part.steady ?_)
    rw [part.params]
    exact h.ppu.steady
  div_multiple := by
    have before : t.timer.div.toNat % 4 = 0 := by
      rcases part.div with same | cleared
      · rw [same, h.div_multiple]
      · rw [cleared]
        rfl
    rw [endCycle_div]
    bv_omega
  mem := by
    rw [endCycle_mem]
    exact part.mem h.mem
  bootRom := by
    rw [endCycle_bootRom, part.bootRom]
    exact h.bootRom
  cartRom := by
    rw [endCycle_cartRom, part.cartRom]
    exact h.cartRom

/-- Settles O10, by what the CPU's part of the cycle does: in a stopped machine nothing, if it stops the machine a change of
the CPU alone, else the end of the machine cycle follows. -/
theorem everyMachineCycleKeepsTheInvariant : Obligations.EveryMachineCycleKeepsTheInvariant := by
  intro s h
  by_cases running : s.cpu.fatal = none
  case neg =>
    rw [(systemStep_of_fatal running).2]
    exact h
  case pos =>
    rw [machineCycle_done running rfl, finishCycle]
    split
    case isTrue stops =>
      rw [cpuStep_stops running (Option.isSome_iff_ne_none.1 stops)]
      exact h.withCpu (cpuStep_inv h.cpu)
    case isFalse => exact endCycle_inv h (cpuStep_inv h.cpu) (cpuStep_cpuPart s)

/-! ### Steps as machine cycles -/

section
variable {P : State → Prop} (cycle : ∀ s, P s → P (machineCycle s)) {s : State}
include cycle

theorem machineCyclesFrom_keeps (n : Nat) (h : P s) : P (machineCyclesFrom n s) := by
  induction n generalizing s with
  | zero => exact h
  | succ n ih => exact ih (cycle s h)

theorem runToBoundary_keeps (n : Nat) (h : P s) : P (runToBoundary n s) := by
  induction n generalizing s with
  | zero => exact h
  | succ n ih =>
    rw [runToBoundary]
    split
    · exact cycle s h
    · exact ih (cycle s h)

/-- What every machine cycle keeps, every step keeps (log 1). -/
theorem step_keeps {t : State} (h : P s) (e : step s = .next t) : P t := by
  cases running : s.cpu.fatal with
  | some d =>
    rw [step_of_fatal (by rw [running]; rfl)] at e
    cases e
    exact h
  | none =>
    by_cases stage : s.cpu.stage = 0
    · rw [step_of_atBoundary ⟨running, stage⟩] at e
      cases e
      exact machineCyclesFrom_keeps cycle _ h
    · have rest : step s = .next (runToBoundary 6 s) := by simp [step, running, stage]
      rw [rest] at e
      cases e
      exact runToBoundary_keeps cycle 6 h

end

/-- Settles O9, since a step is a number of machine cycles and each keeps the invariant (O10). -/
theorem everyStepKeepsTheInvariant : Obligations.EveryStepKeepsTheInvariant := fun _ _ h =>
  step_keeps everyMachineCycleKeepsTheInvariant h

/-! ### What never changes -/

/-- `t` has the parameters and ROM contents of `s`, and the boot ROM unmapped if `s` has (10_state.md R54, R60, R61). -/
structure RomKept (s t : State) : Prop where
  params : t.params = s.params
  bootRom : t.bootRom = s.bootRom
  cartRom : t.cartRom = s.cartRom
  bootOff : s.bus.bootOff = true → t.bus.bootOff = true

theorem RomKept.refl (s : State) : RomKept s s := ⟨rfl, rfl, rfl, id⟩

theorem RomKept.trans {s t u : State} (h : RomKept s t) (g : RomKept t u) : RomKept s u :=
  ⟨g.params.trans h.params, g.bootRom.trans h.bootRom, g.cartRom.trans h.cartRom, g.bootOff ∘ h.bootOff⟩

theorem CpuPart.romKept {s t : State} (h : CpuPart s t) : RomKept s t := ⟨h.params, h.bootRom, h.cartRom, h.bootOff⟩

theorem DevicePart.romKept {s t : State} (h : DevicePart s t) : RomKept s t :=
  ⟨h.params, h.bootRom, h.cartRom, fun off => h.bus ▸ off⟩

theorem machineCycle_romKept (s : State) : RomKept s (machineCycle s) := by
  by_cases running : s.cpu.fatal = none
  case neg =>
    rw [(systemStep_of_fatal running).2]
    exact RomKept.refl s
  case pos =>
    rw [machineCycle_done running rfl, finishCycle]
    split
    case isTrue => exact (cpuStep_cpuPart s).romKept
    case isFalse => exact (cpuStep_cpuPart s).romKept.trans (endCycle_devicePart _).romKept

/-- Settles O14: no machine cycle of the step changes ROM or the parameters, and with the boot ROM unmapped the lowest
addresses read the cartridge. -/
theorem romAndParametersNeverChange : Obligations.RomAndParametersNeverChange := by
  intro s t e
  have kept : RomKept s t :=
    step_keeps (P := RomKept s) (fun u h => h.trans (machineCycle_romKept u)) (RomKept.refl s) e
  refine ⟨kept.params, kept.bootRom, kept.cartRom, fun off => ⟨kept.bootOff off, fun a low => ?_⟩⟩
  rw [memRead_rom (by omega), if_neg (by simp [kept.bootOff off]), kept.cartRom]

end Sys2Proof.Machine
end

section
/-! PROOF. What the I/O addresses read back after a write (10_state.md R37 to R54). -/

namespace Sys2Proof.Machine

/-! ### The bus at an I/O address -/

theorem memRead_io {a : Word} {r : IoReg} (h : regionOf a = .io r) (s : State) : memRead s a = ioRead s r a.toNat := by
  rw [memRead, h]

theorem memWrite_io {a : Word} {r : IoReg} (h : regionOf a = .io r) (s : State) (v : Byte) :
    memWrite s a v = ioWrite s r a.toNat v := by
  rw [memWrite, h]

/-- A read of an I/O address after a write of it, by its register. -/
theorem readBack_io {a : Word} {r : IoReg} (h : regionOf a = .io r) (s : State) (v : Byte) :
    memRead (memWrite s a v) a = ioRead (ioWrite s r a.toNat v) r a.toNat := by
  rw [memRead_io h, memWrite_io h]

/-- The registers that hold every bit of the byte written (10_state.md R40 to R51). -/
def IoReg.holdsByte : IoReg → Bool
  | .sb | .sc | .tima | .tma | .sound | .lcdc | .scy | .scx | .lyc | .dma | .bgp | .obp0 | .obp1 | .wy | .wx => true
  | .joyp | .div | .tac | .iflag | .stat | .ly | .boot | .none => false

theorem dmaWrite_dma (s : State) (v : Byte) : (dmaWrite s v).bus.dma = v := by
  unfold dmaWrite
  dsimp only
  split <;> rfl

/-- The addresses of a register that holds every bit. -/
def Region.holdsByte : Region → Bool
  | .io r => r.holdsByte
  | .rom | .vram | .ram _ | .oam | .unmapped | .ie => false

theorem readBack_byte {a : Word} (holds : (regionOf a).holdsByte = true) (s : State) (v : Byte) :
    memRead (memWrite s a v) a = v := by
  cases region : regionOf a with
  | io r =>
    rw [region] at holds
    rw [readBack_io region]
    cases r
    case dma => exact dmaWrite_dma s v
    case sound => exact Memory.read_write_self _ _ _
    case joyp | div | tac | iflag | stat | ly | boot | none => cases holds
    all_goals rfl
  | _ =>
    rw [region] at holds
    cases holds

/-- The addresses of one register each that hold every bit of the byte written. -/
theorem holdsByte_addresses :
    ∀ a ∈ ([0xFF01, 0xFF02, 0xFF05, 0xFF06, 0xFF40, 0xFF42, 0xFF43, 0xFF45, 0xFF46, 0xFF47, 0xFF48, 0xFF49, 0xFF4A,
      0xFF4B] : List Word), (regionOf a).holdsByte = true :=
  List.all_eq_true.1 rfl

/-- The region of an address of the I/O block (20_memory.md R71). -/
theorem regionOf_io {a : Word} (low : 0xFF00 ≤ a.toNat) (high : a.toNat ≤ 0xFF7F) :
    regionOf a = .io (ioRegOf a.toNat) := by
  obtain h | h | h | h | h | h | h | h | h := regionOf_cases a
  case inr.inr.inr.inr.inr.inr.inl => exact h.2.2
  all_goals omega

theorem regionOf_sound {a : Word} (low : 0xFF10 ≤ a.toNat) (high : a.toNat ≤ 0xFF3F) : regionOf a = .io .sound := by
  rw [regionOf_io (by omega) (by omega), ioRegOf, if_pos ⟨low, high⟩]

/-- The addresses of the block the table of 10_state.md R43 marks "none". -/
def noRegister (a : Word) : Prop :=
  a = 0xFF03 ∨ (0xFF08 ≤ a.toNat ∧ a.toNat ≤ 0xFF0E) ∨ (0xFF4C ≤ a.toNat ∧ a.toNat ≤ 0xFF4F) ∨
    (0xFF51 ≤ a.toNat ∧ a.toNat ≤ 0xFF7F)

theorem ioTable_address_ne : ∀ row ∈ ioTable, row.1 ≠ 0xFF03 ∧ ¬(0xFF08 ≤ row.1 ∧ row.1 ≤ 0xFF0E) ∧
    ¬(0xFF4C ≤ row.1 ∧ row.1 ≤ 0xFF4F) ∧ ¬(0xFF51 ≤ row.1 ∧ row.1 ≤ 0xFF7F) := by decide

theorem regionOf_none {a : Word} (h : noRegister a) : regionOf a = .io .none := by
  have first : a = 0xFF03 → a.toNat = 0xFF03 := fun e => e ▸ rfl
  have range := h.imp_left first
  have unlisted : ioTable.find? (fun row => row.1 == a.toNat) = none := by
    refine List.find?_eq_none.2 fun row listed here => ?_
    have address : row.1 = a.toNat := by simpa using here
    have apart := ioTable_address_ne row listed
    rw [address] at apart
    omega
  rw [regionOf_io (by omega) (by omega), ioRegOf, if_neg (by omega), unlisted]

/-! ### The registers that hold some of the bits written -/

theorem setWidth3_eq_and (v : Byte) : (v.setWidth 3).setWidth 8 = v &&& 0x07 := by
  ext i hi
  interval_cases i <;> simp

theorem setWidth5_eq_and (v : Byte) : (v.setWidth 5).setWidth 8 = v &&& 0x1F := by
  ext i hi
  interval_cases i <;> simp

/-- STAT bit by bit: mode, coincidence, enables, and bit 7 is 0 (10_state.md R46). -/
theorem statByte_getLsbD (p : Ppu) (i : Nat) :
    p.statByte.getLsbD i =
      if i < 2 then p.statMode.getLsbD i
      else if i - 2 < 1 then (bit p.coincidence).getLsbD (i - 2)
      else if i - 2 - 1 < 4 then p.statEnables.getLsbD (i - 2 - 1) else (0#1).getLsbD (i - 2 - 1 - 4) := by
  show (0#1 ++ p.statEnables ++ bit p.coincidence ++ p.statMode : BitVec (1 + 4 + 1 + 2)).getLsbD i = _
  simp only [BitVec.getLsbD_append]

/-- After a write of STAT the enables are bits 6:3 of the byte written. -/
theorem statByte_high (p : Ppu) (v : Byte) :
    Ppu.statByte { p with statEnables := v.extractLsb' 3 4 } &&& 0xF8 = v &&& 0x78 := by
  refine BitVec.eq_of_getLsbD_eq fun i hi => ?_
  rw [BitVec.getLsbD_and, BitVec.getLsbD_and, statByte_getLsbD]
  interval_cases i <;> simp

/-- Bits 2:0 of STAT are the PPU's, whatever the enables. -/
theorem statByte_low (p : Ppu) (e : BitVec 4) :
    Ppu.statByte { p with statEnables := e } &&& 0x07 = p.statByte &&& 0x07 := by
  refine BitVec.eq_of_getLsbD_eq fun i hi => ?_
  rw [BitVec.getLsbD_and, BitVec.getLsbD_and, statByte_getLsbD, statByte_getLsbD]
  interval_cases i <;> simp

/-! ### JOYP -/

/-- A line bit of JOYP is 0 exactly if a pressed button of a selected group stands on it (10_state.md R44). -/
def Joypad.lineClear (j : Joypad) (k : Nat) : Bool :=
  (!j.selDir && j.pressed.directionBits.getLsbD k) || (!j.selAction && j.pressed.actionBits.getLsbD k)

/-- JOYP bit by bit: the lines, the two select bits, and bits 7:6 are 0 (10_state.md R44). -/
theorem joypadRead_getLsbD (j : Joypad) (i : Nat) :
    j.read.getLsbD i =
      if i < 4 then !j.lineClear i
      else if i - 4 < 1 then (bit j.selDir).getLsbD (i - 4)
      else if i - 4 - 1 < 1 then (bit j.selAction).getLsbD (i - 4 - 1) else (0#2).getLsbD (i - 4 - 1 - 1) := by
  show (0#2 ++ bit j.selAction ++ bit j.selDir ++ (0xF#4 &&& ~~~(if j.selDir then 0#4 else j.pressed.directionBits) &&&
    ~~~(if j.selAction then 0#4 else j.pressed.actionBits)) : BitVec (2 + 1 + 1 + 4)).getLsbD i = _
  simp only [BitVec.getLsbD_append]
  split
  case isFalse => rfl
  case isTrue line =>
    have ones : (0xF#4).getLsbD i = true := by interval_cases i <;> rfl
    simp only [BitVec.getLsbD_and, BitVec.getLsbD_not, ones, line, decide_true, Bool.true_and, Joypad.lineClear]
    cases j.selDir <;> cases j.selAction <;> simp

/-- After a write of JOYP the select bits are bits 5:4 of the byte written. -/
theorem joypadRead_high (j : Joypad) (v : Byte) :
    Joypad.read { j with selAction := v.getLsbD 5, selDir := v.getLsbD 4 } &&& 0xF0 = v &&& 0x30 := by
  refine BitVec.eq_of_getLsbD_eq fun i hi => ?_
  rw [BitVec.getLsbD_and, BitVec.getLsbD_and, joypadRead_getLsbD]
  interval_cases i <;> simp [bit]

/-- Four Booleans as a nibble, bit by bit. -/
theorem nibble_getLsbD : ∀ b3 b2 b1 b0 : Bool,
    (bit b3 ++ bit b2 ++ bit b1 ++ bit b0 : BitVec 4).getLsbD 0 = b0 ∧
    (bit b3 ++ bit b2 ++ bit b1 ++ bit b0 : BitVec 4).getLsbD 1 = b1 ∧
    (bit b3 ++ bit b2 ++ bit b1 ++ bit b0 : BitVec 4).getLsbD 2 = b2 ∧
    (bit b3 ++ bit b2 ++ bit b1 ++ bit b0 : BitVec 4).getLsbD 3 = b3 := by decide

/-- The two buttons on each line (10_state.md R44). -/
theorem buttons_on_lines (p : Buttons) :
    ∀ row ∈ ([(0, .right, .a), (1, .left, .b), (2, .up, .select), (3, .down, .start)] : List (Nat × Button × Button)),
      row.1 < 4 ∧ p.directionBits.getLsbD row.1 = p.get row.2.1 ∧ p.actionBits.getLsbD row.1 = p.get row.2.2 := by
  obtain ⟨right, left, up, down⟩ := nibble_getLsbD p.down p.up p.left p.right
  obtain ⟨a, b, select, start⟩ := nibble_getLsbD p.start p.select p.b p.a
  simp only [List.forall_mem_cons, List.not_mem_nil, false_implies, implies_true, and_true]
  exact ⟨⟨by decide, right, a⟩, ⟨by decide, left, b⟩, ⟨by decide, up, select⟩, by decide, down, start⟩

theorem readBack_lines (s : State) (v : Byte) {k : Nat} {direction action : Button}
    (h : (k, direction, action) ∈
      ([(0, .right, .a), (1, .left, .b), (2, .up, .select), (3, .down, .start)] : List (Nat × Button × Button))) :
    (memRead (memWrite s 0xFF00 v) 0xFF00).getLsbD k = false ↔
      (v.getLsbD 4 = false ∧ s.joypad.pressed.get direction = true) ∨
        (v.getLsbD 5 = false ∧ s.joypad.pressed.get action = true) := by
  obtain ⟨line, onDirection, onAction⟩ := buttons_on_lines s.joypad.pressed _ h
  rw [← onDirection, ← onAction, readBack_io (r := .joyp) rfl, ioRead, joypadRead_getLsbD, if_pos line]
  rw [Bool.not_eq_false']
  simp only [Joypad.lineClear, Bool.or_eq_true, Bool.and_eq_true, Bool.not_eq_true']
  exact Iff.rfl

/-! ### DIV, the boot latch, and the statement -/

theorem readBack_div (s : State) (v : Byte) : memRead (memWrite s 0xFF04 v) 0xFF04 = 0x00 := by
  rw [readBack_io (r := .div) rfl]
  show hiByte 0x0000 = 0x00
  decide

/-- A nonzero write sets the boot latch, which nothing clears (10_state.md R54). -/
theorem ioWrite_boot (s : State) (a : Nat) (v : Byte) :
    (ioWrite s .boot a v).bus.bootOff = (s.bus.bootOff || v != 0) := by
  unfold ioWrite
  dsimp only
  split
  case isTrue written => rw [bne_iff_ne.2 written, Bool.or_true]
  case isFalse zero => simp [not_ne_iff.1 zero]

theorem readBack_boot (s : State) (v : Byte) :
    memRead (memWrite s 0xFF50 v) 0xFF50 = if s.bus.bootOff = true ∨ v ≠ 0 then 0x01 else 0x00 := by
  rw [readBack_io (r := .boot) rfl, ioRead, ioWrite_boot]
  by_cases set : s.bus.bootOff = true ∨ v ≠ 0
  · rw [if_pos set, show (s.bus.bootOff || v != 0) = true by simpa using set]
    rfl
  · rw [if_neg set, show (s.bus.bootOff || v != 0) = false by simpa using set]
    rfl

/-- Settles O24, register by register of 10_state.md R43. -/
theorem ioReadBack : Obligations.IoReadBack := by
  intro s v
  refine ⟨fun a listed => readBack_byte (holdsByte_addresses a listed) s v, fun a low high => ?_, setWidth3_eq_and v,
    setWidth5_eq_and v, setWidth5_eq_and v, statByte_high s.ppu v, statByte_low s.ppu _, joypadRead_high s.joypad v,
    readBack_div s v, fun k direction action row => readBack_lines s v row, rfl, rfl, ioWrite_boot s 0xFF50 v,
    readBack_boot s v, fun a unused => ?_⟩
  · exact readBack_byte (by rw [regionOf_sound low high]; rfl) s v
  · have none := regionOf_none unused
    rw [memRead_io none, memWrite_io none]
    exact ⟨rfl, rfl⟩

end Sys2Proof.Machine
end

section
/-! PROOF. Byte storage and the bus, region by region of the address map (20_memory.md R71 to R86). -/

namespace Sys2Proof.Machine

/-! ### Canonical storage is determined by what it reads -/

theorem Memory.read_head (c : Host.Cell) (m : Memory) : Memory.read (c :: m) c.1 = c.2 := if_pos rfl

/-- Canonical storage lists nothing below its first address. -/
theorem Memory.read_below_head {c : Host.Cell} {m : Memory} (canonical : Memory.wf (c :: m) = true) {a : Nat}
    (below : a < c.1) : Memory.read (c :: m) a = unlistedByte := by
  obtain ⟨-, rising, -⟩ := (Memory.wf_cons c m).1 canonical
  refine Memory.read_of_not_listed _ _ fun d listed => ?_
  rcases List.mem_cons.1 listed with rfl | later
  · omega
  · have := rising d later
    omega

/-- What the rest of canonical storage reads, from what the whole reads. -/
theorem Memory.read_tail {c : Host.Cell} {m : Memory} (canonical : Memory.wf (c :: m) = true) (a : Nat) :
    m.read a = if c.1 = a then unlistedByte else Memory.read (c :: m) a := by
  obtain ⟨-, rising, -⟩ := (Memory.wf_cons c m).1 canonical
  split
  case isTrue head =>
    refine Memory.read_of_not_listed _ _ fun d listed => ?_
    have := rising d listed
    omega
  case isFalse other => rw [Memory.read_cons, if_neg other]

/-- Canonical storage with the same reads does not begin below: its first byte would be unlisted here. -/
theorem Memory.head_le_of_same_reads {c d : Host.Cell} {m m' : Memory} (canonical : Memory.wf (c :: m) = true)
    (canonical' : Memory.wf (d :: m') = true) (same : ∀ a, Memory.read (c :: m) a = Memory.read (d :: m') a) :
    c.1 ≤ d.1 := by
  by_contra above
  obtain ⟨listed, -, -⟩ := (Memory.wf_cons d m').1 canonical'
  exact listed (by rw [← Memory.read_head d m', ← same, Memory.read_below_head canonical (by omega)])

/-- Settles O19, by induction on the entries: two canonical lists with the same reads begin with the same entry. -/
theorem canonicalMemoryIsDetermined : Obligations.CanonicalMemoryIsDetermined := by
  intro m
  induction m with
  | nil =>
    rintro (_ | ⟨d, m'⟩) - canonical' same
    · rfl
    · obtain ⟨listed, -, -⟩ := (Memory.wf_cons d m').1 canonical'
      exact absurd ((Memory.read_head d m').symm.trans (same d.1).symm) listed
  | cons c m ih =>
    rintro (_ | ⟨d, m'⟩) canonical canonical' same
    · obtain ⟨listed, -, -⟩ := (Memory.wf_cons c m).1 canonical
      exact absurd ((Memory.read_head c m).symm.trans (same c.1)) listed
    · have address : c.1 = d.1 := Nat.le_antisymm (Memory.head_le_of_same_reads canonical canonical' same)
        (Memory.head_le_of_same_reads canonical' canonical fun a => (same a).symm)
      have value : c.2 = d.2 := by rw [← Memory.read_head c m, same, address, Memory.read_head]
      have rest : m = m' := by
        refine ih m' ((Memory.wf_cons c m).1 canonical).2.2 ((Memory.wf_cons d m').1 canonical').2.2 fun a => ?_
        rw [Memory.read_tail canonical, Memory.read_tail canonical', address, same]
      rw [Prod.ext address value, rest]

/-! ### The region of an address, range by range -/

section
variable {a : Word}

theorem regionOf_rom (high : a.toNat ≤ 0x7FFF) : regionOf a = .rom := if_pos high

theorem regionOf_vram (low : 0x8000 ≤ a.toNat) (high : a.toNat ≤ 0x9FFF) : regionOf a = .vram :=
  (if_neg (by omega)).trans (if_pos high)

/-- External and working RAM. -/
theorem regionOf_ram (low : 0xA000 ≤ a.toNat) (high : a.toNat ≤ 0xDFFF) : regionOf a = .ram a.toNat :=
  (if_neg (by omega)).trans ((if_neg (by omega)).trans (if_pos high))

theorem regionOf_echo (low : 0xE000 ≤ a.toNat) (high : a.toNat ≤ 0xFDFF) : regionOf a = .ram (a.toNat - 0x2000) :=
  (if_neg (by omega)).trans ((if_neg (by omega)).trans ((if_neg (by omega)).trans (if_pos high)))

theorem regionOf_oam (low : 0xFE00 ≤ a.toNat) (high : a.toNat ≤ 0xFE9F) : regionOf a = .oam := by
  obtain h | h | h | h | h | h | h | h | h := regionOf_cases a
  case inr.inr.inr.inr.inl => exact h.2.2
  all_goals omega

theorem regionOf_unmapped (low : 0xFEA0 ≤ a.toNat) (high : a.toNat ≤ 0xFEFF) : regionOf a = .unmapped := by
  obtain h | h | h | h | h | h | h | h | h := regionOf_cases a
  case inr.inr.inr.inr.inr.inl => exact h.2.2
  all_goals omega

theorem regionOf_highRam (low : 0xFF80 ≤ a.toNat) (high : a.toNat ≤ 0xFFFE) : regionOf a = .ram a.toNat := by
  obtain h | h | h | h | h | h | h | h | h := regionOf_cases a
  case inr.inr.inr.inr.inr.inr.inr.inl => exact h.2.2
  all_goals omega

/-! ### The bus, region by region -/

theorem memRead_ram {k : Nat} (h : regionOf a = .ram k) (s : State) : memRead s a = s.mem.read k := by
  rw [memRead, h]

theorem memWrite_ram {k : Nat} (h : regionOf a = .ram k) (s : State) (v : Byte) :
    memWrite s a v = { s with mem := s.mem.write k v } := by
  rw [memWrite, h]

theorem memRead_vram (h : regionOf a = .vram) (s : State) :
    memRead s a = if s.vramClosed then 0xFF else s.mem.read a.toNat := by
  rw [memRead, h]

theorem memWrite_vram (h : regionOf a = .vram) (s : State) (v : Byte) :
    memWrite s a v = if s.vramClosed then s else { s with mem := s.mem.write a.toNat v } := by
  rw [memWrite, h]

theorem memRead_oam (h : regionOf a = .oam) (s : State) :
    memRead s a = if s.oamClosed then 0xFF else s.mem.read a.toNat := by
  rw [memRead, h]

theorem memWrite_oam (h : regionOf a = .oam) (s : State) (v : Byte) :
    memWrite s a v = if s.oamClosed then s else { s with mem := s.mem.write a.toNat v } := by
  rw [memWrite, h]

theorem memWrite_rom (h : regionOf a = .rom) (s : State) (v : Byte) : memWrite s a v = s := by
  rw [memWrite, h]

theorem memRead_unmapped (h : regionOf a = .unmapped) (s : State) : memRead s a = 0x00 := by
  rw [memRead, h]

theorem memWrite_unmapped (h : regionOf a = .unmapped) (s : State) (v : Byte) : memWrite s a v = s := by
  rw [memWrite, h]

/-- An address of the echo names the same storage as the address 0x2000 below (20_memory.md R83). -/
theorem regionOf_below_echo (low : 0xE000 ≤ a.toNat) (high : a.toNat ≤ 0xFDFF) :
    regionOf (a - 0x2000) = .ram (a.toNat - 0x2000) := by
  have below : (a - 0x2000).toNat = a.toNat - 0x2000 := BitVec.toNat_sub_of_le (by bv_omega)
  rw [regionOf_ram (by omega) (by omega), below]

end

/-- A read of RAM after a write of RAM: the byte written where both addresses name the same storage. -/
theorem memRead_memWrite_ram {a b : Word} {k l : Nat} (ha : regionOf a = .ram k) (hb : regionOf b = .ram l) (s : State)
    (v : Byte) : memRead (memWrite s a v) b = if l = k then v else memRead s b := by
  rw [memRead_ram hb, memRead_ram hb, memWrite_ram ha, Memory.read_write]

/-- Settles O20, from the storage address each range of RAM names. -/
theorem ramAndItsEcho : Obligations.RamAndItsEcho := by
  refine ⟨fun s a b v k l ha hb => memRead_memWrite_ram ha hb s v, fun a => regionOf_ram, fun a => regionOf_highRam,
    fun s a v low high => ?_⟩
  have echo := regionOf_echo low high
  have below := regionOf_below_echo low high
  rw [memRead_ram echo, memRead_ram below, memWrite_ram echo, memWrite_ram below]
  exact ⟨rfl, rfl⟩

/-! ### The gates -/

theorem vramClosed_iff (s : State) : s.vramClosed = true ↔ s.ppu.mode = .mode3 := by simp [State.vramClosed]

theorem oamClosed_iff (s : State) : s.oamClosed = true ↔ s.ppu.mode = .mode2 ∨ s.ppu.mode = .mode3 := by
  simp [State.oamClosed]

/-- Settles O21, by the region of the address and whether its gate is closed. -/
theorem ppuGates : Obligations.PpuGates := by
  refine ⟨fun s a v low high => ?_, fun s a v low high => ?_⟩
  · have vram := regionOf_vram low high
    rw [memRead_vram vram, memWrite_vram vram, ne_eq, ← vramClosed_iff]
    exact ⟨fun closed => ⟨if_pos closed, if_pos closed⟩, fun opened => ⟨if_neg opened, if_neg opened⟩⟩
  · have oam := regionOf_oam low high
    rw [memRead_oam oam, memWrite_oam oam, ← not_or, ← oamClosed_iff]
    exact ⟨fun closed => ⟨if_pos closed, if_pos closed⟩, fun opened => ⟨if_neg opened, if_neg opened⟩⟩

/-- Settles O22, by the region of the address. -/
theorem romAndUnmappedIgnoreWrites : Obligations.RomAndUnmappedIgnoreWrites := by
  refine ⟨fun s a v high => memWrite_rom (regionOf_rom high) s v, fun s a v low high => ?_⟩
  have unmapped := regionOf_unmapped low high
  exact ⟨memRead_unmapped unmapped s, memWrite_unmapped unmapped s v⟩

/-! ### OAM DMA -/

theorem memWrite_dma (s : State) (v : Byte) : memWrite s 0xFF46 v = dmaWrite s v := memWrite_io (r := .dma) rfl s v

/-- An OAM DMA changes the DMA register and byte storage alone. -/
theorem dmaWrite_eq (s : State) (v : Byte) :
    dmaWrite s v = { s with bus := { s.bus with dma := v }, mem := (dmaWrite s v).mem } := by
  by_cases copies : v.toNat ≤ 0xDF
  · simp only [dmaWrite, if_pos copies]
  · simp only [dmaWrite, if_neg copies]

/-- Settles O23, from the 160 bytes stored in OAM and what is left outside it. -/
theorem oamDmaCopies160Bytes : Obligations.OamDmaCopies160Bytes := by
  intro s v
  rw [memWrite_dma]
  exact ⟨fun copies => ⟨dmaWrite_read_inside s v copies, dmaWrite_read_outside s v⟩, dmaWrite_mem_high s v,
    dmaWrite_eq s v⟩

end Sys2Proof.Machine
end

section
/-! PROOF. The frame of every instruction outside the CPU (20_memory.md R71 to R87): each run reaches its end by CPU changes,
ends of machine cycles and bus writes at the addresses `storesOf` names, and each of the three leaves the rest. -/

namespace Sys2Proof.Machine

open Sys2Proof.Claims

/-! ### Every instruction stores at the addresses `storesOf` names -/

/-- SP-1 and SP-2, the addresses of a push. -/
def pushStores (s : State) : List Word := [s.cpu.sp - 1, s.cpu.sp - 2]

theorem storesOf_of_not_storing {i : Instr} (h : Instr.storing i = false) (s : State) : storesOf i s = [] := by
  cases i <;> first | rfl | cases h

theorem storesOf_callCond (cc : Cond) (nn : Word) (s : State) :
    storesOf (Instr.callCond cc nn) s = if condHolds cc s.cpu.f then pushStores s else [] := by
  cases cc
  case nz =>
    show (if s.cpu.f.z then [] else pushStores s) = if !s.cpu.f.z then pushStores s else []
    cases s.cpu.f.z <;> rfl
  case nc =>
    show (if s.cpu.f.c then [] else pushStores s) = if !s.cpu.f.c then pushStores s else []
    cases s.cpu.f.c <;> rfl
  all_goals rfl

theorem callCond_reach_storesOf (cc : Cond) (nn : Word) (s : State) :
    Reach (storesOf (Instr.callCond cc nn) s) s (runCycles (callCondCycles cc nn) s) := by
  rw [storesOf_callCond]
  exact callCond_reach cc nn s

/-- The instructions that store, form by form. -/
theorem cyclesOf_reach_of_storing {i : Instr} (h : Instr.storing i = true) (s : State) :
    Reach (storesOf i s) s (runCycles (cyclesOf i) s) := by
  cases i
  case ld_mhl_b | ld_mhl_c | ld_mhl_d | ld_mhl_e | ld_mhl_h | ld_mhl_l | ld_mhl_a => exact ldMemReg_reach _ s
  case ld_mhl_n n => exact ldMemImm_reach n s
  case ld_mhli_a | ld_mhld_a => exact ldHlStepA_reach _ s
  case inc_mhl => exact incMem_reach s
  case dec_mhl => exact decMem_reach s
  case ld_mbc_a | ld_mde_a => exact ldPairA_reach _ s
  case ld_mnn_a nn => exact ldAbsA_reach nn s
  case ldh_mc_a => exact ldhCA_reach s
  case ldh_mn_a n => exact ldhImmA_reach n s
  case ld_mnn_sp nn => exact ldAbsSp_reach nn s
  case push_bc | push_de | push_hl | push_af => exact push_reach _ s
  case call_nn nn => exact call_reach nn s
  case call_nz_nn nn => exact callCond_reach_storesOf .nz nn s
  case call_z_nn nn => exact callCond_reach_storesOf .z nn s
  case call_nc_nn nn => exact callCond_reach_storesOf .nc nn s
  case call_c_nn nn => exact callCond_reach_storesOf .c nn s
  case rst_00 | rst_08 | rst_10 | rst_18 | rst_20 | rst_28 | rst_30 | rst_38 => exact rst_reach _ s
  case rlc_mhl | rrc_mhl | rl_mhl | rr_mhl | sla_mhl | sra_mhl | swap_mhl | srl_mhl => exact shiftMem_reach _ s
  case res_0_mhl | res_1_mhl | res_2_mhl | res_3_mhl | res_4_mhl | res_5_mhl | res_6_mhl | res_7_mhl =>
    exact resMem_reach _ s
  case set_0_mhl | set_1_mhl | set_2_mhl | set_3_mhl | set_4_mhl | set_5_mhl | set_6_mhl | set_7_mhl =>
    exact setMem_reach _ s
  all_goals cases h

/-- The meaning of every instruction reaches its end by stores at the addresses `storesOf` names. -/
theorem exec_reach {i : Instr} {s t : State} (h : exec i s = .next t) : Reach (storesOf i s) s t := by
  rw [exec_eq] at h
  cases h
  cases storing : Instr.storing i with
  | true => exact cyclesOf_reach_of_storing storing s
  | false =>
    rw [storesOf_of_not_storing storing]
    exact runCycles_reach _ s (cyclesOf_cpuOnly i storing)

/-- What no CPU change, no end of a machine cycle and no write at a listed address changes is the same at the end. -/
theorem Reach.keeps {α : Type} {S : List Word} {s t : State} (h : Reach S s t) (view : State → α)
    (cpu : ∀ u c, view (u.withCpu c) = view u) (cycle : ∀ u, view (endCycle u) = view u)
    (write : ∀ a ∈ S, ∀ u v, view (memWrite u a v) = view u) : view t = view s := by
  induction h with
  | refl => rfl
  | cpu c _ ih => exact (cpu _ c).trans ih
  | write a v listed _ ih => exact (write a listed _ v).trans ih
  | cycle _ ih => exact (cycle _).trans ih

/-! ### What a bus write leaves -/

/-- The key of an address of RAM is not in OAM. -/
theorem ram_key_outside_oam {a : Word} {k : Nat} (h : regionOf a = .ram k) : k < 0xFE00 ∨ 0xFE9F < k := by
  obtain h' | h' | h' | h' | h' | h' | h' | h' | h' := regionOf_cases a <;> simp_all <;> omega

/-- A bus write leaves every byte its address does not name, but that one of the DMA register can write OAM. -/
theorem memWrite_read_other {a : Word} {k : Nat} (unnamed : storageCell a ≠ some k)
    (dma : a = 0xFF46 → k < 0xFE00 ∨ 0xFE9F < k) (s : State) (v : Byte) :
    (memWrite s a v).mem.read k = s.mem.read k := by
  have other {key : Nat} (named : storageCell a = some key) : (s.mem.write key v).read k = s.mem.read k :=
    Memory.read_write_ne _ _ _ _ fun e => unnamed (e ▸ named)
  cases region : regionOf a with
  | rom => rw [memWrite_rom region]
  | unmapped => rw [memWrite_unmapped region]
  | ie => rw [memWrite, region]
  | ram key =>
    rw [memWrite_ram region]
    exact other (by rw [storageCell, region])
  | vram =>
    rw [memWrite_vram region]
    split
    · rfl
    · exact other (by rw [storageCell, region])
  | oam =>
    rw [memWrite_oam region]
    split
    · rfl
    · exact other (by rw [storageCell, region])
  | io r =>
    rw [memWrite_io region]
    cases r
    case sound => exact other (by rw [storageCell, region])
    case dma => exact dmaWrite_read_outside s v k (dma (address_of_dma region))
    case boot =>
      unfold ioWrite
      dsimp only
      split <;> rfl
    all_goals rfl

/-- The regions whose addresses are registers and no byte storage. -/
def Region.ofRegisters : Region → Bool
  | .io _ | .ie => true
  | .rom | .vram | .ram _ | .oam | .unmapped => false

theorem isRegister_iff (a : Word) :
    isRegister a = true ↔ (0xFF00 ≤ a.toNat ∧ a.toNat ≤ 0xFF7F) ∨ a.toNat = 0xFFFF := by
  simp [isRegister, ← BitVec.toNat_inj]

theorem ofRegisters_regionOf (a : Word) : (regionOf a).ofRegisters = isRegister a := by
  rw [Bool.eq_iff_iff, isRegister_iff]
  obtain h | h | h | h | h | h | h | h | h := regionOf_cases a
  case inr.inr.inr.inr.inr.inr.inl => exact iff_of_true (h.2.2 ▸ rfl) (.inl ⟨h.1, h.2.1⟩)
  case inr.inr.inr.inr.inr.inr.inr.inr => exact iff_of_true (h.2 ▸ rfl) (.inr h.1)
  case inl => exact iff_of_false (h.2 ▸ Bool.false_ne_true) (by omega)
  all_goals exact iff_of_false (h.2.2 ▸ Bool.false_ne_true) (by omega)

/-- A bus write at an address of no register changes byte storage alone. -/
theorem memWrite_of_not_register {a : Word} (h : isRegister a = false) (s : State) (v : Byte) :
    memWrite s a v = { s with mem := (memWrite s a v).mem } := by
  rw [← ofRegisters_regionOf] at h
  cases region : regionOf a with
  | rom => rw [memWrite_rom region]
  | unmapped => rw [memWrite_unmapped region]
  | vram =>
    rw [memWrite_vram region]
    split <;> rfl
  | ram key => rw [memWrite_ram region]
  | oam =>
    rw [memWrite_oam region]
    split <;> rfl
  | io | ie =>
    rw [region] at h
    cases h

/-- Only a write at 0xFF50 changes the boot latch (10_state.md R54). -/
theorem memWrite_bootOff {a : Word} (h : a ≠ 0xFF50) (s : State) (v : Byte) :
    (memWrite s a v).bus.bootOff = s.bus.bootOff := by
  cases region : regionOf a with
  | io r =>
    rw [memWrite_io region]
    cases r
    case boot => exact absurd (address_of_boot region) h
    case dma => exact congrArg (·.bus.bootOff) (dmaWrite_eq s v)
    all_goals rfl
  | ie => rw [memWrite, region]
  | _ => rw [memWrite_of_not_register (by rw [← ofRegisters_regionOf, region]; rfl)]

/-! ### The registers of the bus -/

/-- The registers of the bus that only a bus write changes (10_state.md R43). -/
def State.busRegisters (s : State) :
    BusRegs × BitVec 5 × Byte × BitVec 3 × Bool × Bool × Byte × BitVec 4 × Byte × Byte × Byte × Byte × Byte × Byte × Byte ×
      Byte :=
  (s.bus, s.irq.ie, s.timer.tma, s.timer.tac, s.joypad.selAction, s.joypad.selDir, s.ppu.lcdc, s.ppu.statEnables, s.ppu.scy,
    s.ppu.scx, s.ppu.wy, s.ppu.wx, s.ppu.lyc, s.ppu.bgp, s.ppu.obp0, s.ppu.obp1)

theorem busRegisters_endCycle (s : State) : (endCycle s).busRegisters = s.busRegisters := by
  have part := endCycle_devicePart s
  simp only [State.busRegisters, part.bus, part.ie, part.tma, part.tac, part.selAction, part.selDir, part.lcdc,
    part.statEnables, part.scy, part.scx, part.wy, part.wx, part.lyc, part.bgp, part.obp0, part.obp1]

theorem busRegisters_memWrite {a : Word} (h : isRegister a = false) (s : State) (v : Byte) :
    (memWrite s a v).busRegisters = s.busRegisters := by
  rw [memWrite_of_not_register h]
  rfl

/-! ### The frame -/

section
variable {S : List Word} {s t : State} (h : Reach S s t)
include h

theorem Reach.read_other {k : Nat} (unnamed : ∀ a ∈ S, storageCell a ≠ some k)
    (dma : (0xFF46 : Word) ∈ S → k < 0xFE00 ∨ 0xFE9F < k) : t.mem.read k = s.mem.read k :=
  h.keeps (fun u => u.mem.read k) (fun _ _ => rfl) (fun u => by rw [endCycle_mem])
    fun a listed u v => memWrite_read_other (unnamed a listed) (fun e => dma (e ▸ listed)) u v

theorem Reach.busRegisters (unregistered : ∀ a ∈ S, isRegister a = false) : t.busRegisters = s.busRegisters :=
  h.keeps State.busRegisters (fun _ _ => rfl) busRegisters_endCycle
    fun a listed u v => busRegisters_memWrite (unregistered a listed) u v

theorem Reach.mem_of_no_store (none : S = []) : t.mem = s.mem :=
  h.keeps State.mem (fun _ _ => rfl) endCycle_mem fun _ listed => absurd (none ▸ listed) List.not_mem_nil

theorem Reach.memRead_ram {a : Word} {k : Nat} (region : regionOf a = .ram k)
    (unnamed : ∀ b ∈ S, storageCell b ≠ some k) : memRead t a = memRead s a := by
  rw [Machine.memRead_ram region, Machine.memRead_ram region]
  exact h.read_other unnamed fun _ => ram_key_outside_oam region

theorem Reach.memRead_rom {a : Word} (rom : a.toNat ≤ 0x7FFF) (latch : (0xFF50 : Word) ∉ S) :
    memRead t a = memRead s a := by
  refine h.keeps (fun u => memRead u a) (fun _ _ => rfl) (fun u => ?_) fun b listed u v => ?_
  all_goals simp only [Machine.memRead_rom (Nat.lt_succ_of_le rom)]
  · rw [endCycle_bus, endCycle_bootRom, endCycle_cartRom]
  · have part := memWrite_cpuPart u b v
    rw [memWrite_bootOff (fun e => latch (e ▸ listed)), part.bootRom, part.cartRom]

end

/-- Settles O18, from the run of the instruction (`exec_reach`) and what its stores leave (`Reach.keeps`). -/
theorem instructionFrame : Obligations.InstructionFrame := by
  intro i s t next
  have reach := exec_reach next
  refine ⟨fun k => reach.read_other, fun unregistered => ?_, reach.mem_of_no_store, fun a k => reach.memRead_ram,
    fun a => reach.memRead_rom⟩
  simpa only [State.busRegisters, Prod.mk.injEq] using reach.busRegisters unregistered

end Sys2Proof.Machine
end

section
/-! PROOF. The encoding (30_encoding.md R110 to R126): each row of the decoder's maps is what the encoder writes for the
instructions of that row, so that decoding and encoding undo one another but for STOP's second byte. -/

namespace Sys2Proof

open Machine

/-! ### The displacement byte -/

@[simp] theorem displacementByte_displacementOf (b : Byte) : displacementByte (displacementOf b) = b := BitVec.ofInt_toInt

theorem displacementOf_displacementByte {e : Int} (fits : displacementFits e = true) :
    displacementOf (displacementByte e) = e := by
  simp only [displacementFits, Bool.and_eq_true, decide_eq_true_eq] at fits
  exact BitVec.toInt_ofInt_eq_self (by decide) (by omega) (by omega)

@[simp] theorem displacementFits_displacementOf (b : Byte) : displacementFits (displacementOf b) = true := by
  have low : -128 ≤ b.toInt := BitVec.le_toInt b
  have high : b.toInt ≤ 127 := Int.lt_add_one_iff.1 BitVec.toInt_lt
  simp [displacementFits, displacementOf, low, high]

/-! ### The maps are what the encoder writes -/

/-- A row of the first-byte map holds well-formed instructions, which the encoder writes with the first byte `op` and the
operand of the row's format. -/
def OpcodeRow.Encodes (op : Byte) : OpcodeRow → Prop
  | .one i => i.wellFormed = true ∧ encode i = [op]
  | .skip i => i = .stop ∧ op = 0x10
  | .imm8 f => (∀ n, (f n).wellFormed = true) ∧ ∀ n, encode (f n) = [op, n]
  | .disp f => (∀ e, (f e).wellFormed = displacementFits e) ∧ ∀ e, encode (f e) = [op, displacementByte e]
  | .imm16 f => (∀ nn, (f nn).wellFormed = true) ∧ ∀ nn, encode (f nn) = [op, loByte nn, hiByte nn]
  | .prefixed => op = 0xCB

theorem opcodeMap_encodes :
    ∀ line ∈ opcodeMap.zipIdx, ∀ row ∈ line.1.zipIdx, row.1.Encodes (BitVec.ofNat 8 (16 * line.2 + row.2)) := by
  simp only [opcodeMap, opcodeRow0, opcodeRow1, opcodeRow2, opcodeRow3, opcodeRow4, opcodeRow5, opcodeRow6, opcodeRow7,
    opcodeRow8, opcodeRow9, opcodeRowA, opcodeRowB, opcodeRowC, opcodeRowD, opcodeRowE, opcodeRowF, OpcodeRow.Encodes,
    List.zipIdx_cons, List.zipIdx_nil, List.forall_mem_cons, List.not_mem_nil, false_implies, implies_true, true_and,
    and_true]
  and_intros <;> intros <;> rfl

theorem subMap_encodes :
    ∀ line ∈ subMap.zipIdx, ∀ i ∈ line.1.zipIdx,
      i.1.wellFormed = true ∧ encode i.1 = [0xCB, BitVec.ofNat 8 (16 * line.2 + i.2)] := by
  decide

theorem ofNat_nibbles (b : Byte) : BitVec.ofNat 8 (16 * (hiNibble b).val + (loNibble b).val) = b := by
  apply BitVec.eq_of_toNat_eq
  simp only [hiNibble, loNibble, Nat.div_add_mod, BitVec.ofNat_toNat, BitVec.setWidth_eq]

/-- What holds of every entry of a 16 by 16 map, with the byte the entry stands for, holds of the entry of a byte. -/
theorem of_map_entry {α : Type} {map : List (List α)} (P : Byte → α → Prop)
    (h : ∀ line ∈ map.zipIdx, ∀ x ∈ line.1.zipIdx, P (BitVec.ofNat 8 (16 * line.2 + x.2)) x.1) (b : Byte)
    (hi : (hiNibble b).val < map.length) (lo : (loNibble b).val < (map[(hiNibble b).val]).length) :
    P b ((map[(hiNibble b).val])[(loNibble b).val]) := by
  have entry := List.forall_mem_zipIdx'.1 (List.forall_mem_zipIdx'.1 h _ hi) _ lo
  rwa [ofNat_nibbles] at entry

theorem opcodeRowOf_encodes (op : Byte) : (opcodeRowOf op).Encodes op :=
  of_map_entry OpcodeRow.Encodes opcodeMap_encodes op _ _

/-- Every sub-opcode names an instruction the encoder writes with it (30_encoding.md R122). -/
theorem subInstr_encodes (sub : Byte) : (subInstr sub).wellFormed = true ∧ encode (subInstr sub) = [0xCB, sub] :=
  of_map_entry (fun sub i => i.wellFormed = true ∧ encode i = [0xCB, sub]) subMap_encodes sub _ _

/-! ### What a first byte decodes, by the format of its row -/

section
variable {op : Byte}

theorem decode_imm8 {f : Byte → Instr} (row : opcodeRowOf op = .imm8 f) (n : Byte) (rest : List Byte) :
    decode (op :: n :: rest) = .ok (f n, rest) := by
  simp only [decode, row]

theorem decode_disp {f : Int → Instr} (row : opcodeRowOf op = .disp f) {e : Int} (fits : displacementFits e = true)
    (rest : List Byte) : decode (op :: displacementByte e :: rest) = .ok (f e, rest) := by
  simp only [decode, row, displacementOf_displacementByte fits]

theorem decode_imm16 {f : Word → Instr} (row : opcodeRowOf op = .imm16 f) (nn : Word) (rest : List Byte) :
    decode (op :: loByte nn :: hiByte nn :: rest) = .ok (f nn, rest) := by
  simp only [decode, row, joinBytes_hiByte_loByte]

end

/-- Settles O2, by the format of the instruction: one with an operand by the lemma of its row, every other one has
constant bytes, which decode by computation. -/
theorem decodeOfEncodeIsTheInstruction : Obligations.DecodeOfEncodeIsTheInstruction := by
  intro i rest fits
  cases i
  case ld_b_n n | ld_c_n n | ld_d_n n | ld_e_n n | ld_h_n n | ld_l_n n | ld_mhl_n n | ld_a_n n | add_a_n n | adc_a_n n |
      sub_n n | sbc_a_n n | and_n n | xor_n n | or_n n | cp_n n | ldh_mn_a n | ldh_a_mn n =>
    exact decode_imm8 rfl n rest
  case jr_e e | jr_nz_e e | jr_z_e e | jr_nc_e e | jr_c_e e | add_sp_e e | ld_hl_sp_e e => exact decode_disp rfl fits rest
  case ld_bc_nn nn | ld_de_nn nn | ld_hl_nn nn | ld_sp_nn nn | ld_mnn_sp nn | ld_mnn_a nn | ld_a_mnn nn | jp_nn nn |
      jp_nz_nn nn | jp_z_nn nn | jp_nc_nn nn | jp_c_nn nn | call_nn nn | call_nz_nn nn | call_z_nn nn | call_nc_nn nn |
      call_c_nn nn =>
    exact decode_imm16 rfl nn rest
  all_goals rfl

/-! ### What decodes -/

/-- `read` is what a decoder reads of `i`: the bytes the encoder writes, but for STOP, whose second byte has any value. -/
def Instr.ReadFrom (i : Instr) (read : List Byte) : Prop :=
  read = encode i ∨ i = .stop ∧ ∃ v, read = [0x10, v]

theorem Instr.ReadFrom.length_eq {i : Instr} {read : List Byte} (h : i.ReadFrom read) : read.length = i.length := by
  obtain rfl | ⟨rfl, v, rfl⟩ := h
  · rfl
  · rfl

theorem Instr.ReadFrom.eq_encode {i : Instr} {read : List Byte} (h : i.ReadFrom read) (notStop : i ≠ .stop) :
    read = encode i :=
  h.resolve_right fun stop => notStop stop.1

/-- What decodes is a well-formed instruction, read from 1, 2 or 3 bytes. -/
theorem decode_ok {bytes rest : List Byte} {i : Instr} (h : decode bytes = .ok (i, rest)) :
    i.wellFormed = true ∧ ∃ read, bytes = read ++ rest ∧ i.ReadFrom read ∧ 1 ≤ read.length ∧ read.length ≤ 3 := by
  cases bytes with
  | nil => cases h
  | cons op tail =>
    have encodes := opcodeRowOf_encodes op
    simp only [decode] at h
    generalize opcodeRowOf op = row at h encodes
    split at h <;> cases h
    case h_1 =>
      obtain ⟨wf, written⟩ := encodes
      exact ⟨wf, [op], rfl, .inl written.symm, by simp⟩
    case h_2 v =>
      obtain ⟨rfl, rfl⟩ := encodes
      exact ⟨rfl, [0x10, v], rfl, .inr ⟨rfl, v, rfl⟩, by simp⟩
    case h_3 f n =>
      obtain ⟨wf, written⟩ := encodes
      exact ⟨wf n, [op, n], rfl, .inl (written n).symm, by simp⟩
    case h_4 f e =>
      obtain ⟨wf, written⟩ := encodes
      exact ⟨by simp [wf], [op, e], rfl, .inl (by simp [written]), by simp⟩
    case h_5 f lo hi =>
      obtain ⟨wf, written⟩ := encodes
      exact ⟨wf _, [op, lo, hi], rfl, .inl (by simp [written]), by simp⟩
    case h_6 sub =>
      obtain rfl : op = 0xCB := encodes
      obtain ⟨wf, written⟩ := subInstr_encodes sub
      exact ⟨wf, [0xCB, sub], rfl, .inl written.symm, by simp⟩

/-- Settles O3, from the bytes read by each format (`decode_ok`). -/
theorem encodeOfDecodeIsTheBytes : Obligations.EncodeOfDecodeIsTheBytes := by
  intro bytes rest i h
  obtain ⟨wf, read, cut, readFrom, low, high⟩ := decode_ok h
  have length := readFrom.length_eq
  exact ⟨wf, length ▸ low, length ▸ high, read, cut, length, readFrom.eq_encode⟩

/-! ### The undefined first bytes -/

/-- The encoding of what a first byte names begins with that byte. -/
theorem head_encode_instrOf (op d8 : Byte) (d16 : Word) : (encode (instrOf op d8 d16)).head? = some op := by
  have encodes := opcodeRowOf_encodes op
  unfold instrOf
  cases row : opcodeRowOf op <;> rw [row] at encodes
  case one i => rw [encodes.2, List.head?_cons]
  case skip i =>
    obtain ⟨rfl, rfl⟩ := encodes
    rfl
  case imm8 f | disp f | imm16 f => rw [encodes.2, List.head?_cons]
  case prefixed =>
    obtain rfl : op = 0xCB := encodes
    rw [(subInstr_encodes d8).2, List.head?_cons]

theorem encode_of_undefined : ∀ p ∈ Instr.undefinedBytes, encode p.2 = [p.1] := by decide

theorem instrOf_of_undefined (d8 : Byte) (d16 : Word) : ∀ p ∈ Instr.undefinedBytes, instrOf p.1 d8 d16 = p.2 := by
  simp only [Instr.undefinedBytes, List.forall_mem_cons, List.not_mem_nil, false_implies, implies_true, and_true]
  and_intros <;> rfl

/-- A first byte names an undefined instruction exactly when it is one of the undefined bytes (30_encoding.md R123). -/
theorem instrOf_undefined_iff (op d8 : Byte) (d16 : Word) :
    (∃ u, (u, instrOf op d8 d16) ∈ Instr.undefinedBytes) ↔ op ∈ Instr.undefinedBytes.map Prod.fst := by
  constructor
  · rintro ⟨u, listed⟩
    have head := head_encode_instrOf op d8 d16
    rw [encode_of_undefined _ listed] at head
    obtain rfl : u = op := Option.some.inj head
    exact List.mem_map_of_mem (f := Prod.fst) listed
  · intro undefined
    obtain ⟨⟨u, i⟩, listed, rfl⟩ := List.mem_map.1 undefined
    rw [instrOf_of_undefined d8 d16 _ listed]
    exact ⟨u, listed⟩

/-- Settles O4, from the instruction three bytes decode to (`decode_instrOf`). -/
theorem everyFirstByteHasAnOutcome : Obligations.EveryFirstByteHasAnOutcome := by
  intro op b1 b2 rest
  obtain ⟨rest', decoded⟩ := decode_instrOf op b1 b2 rest
  exact ⟨_, rest', decoded, instrOf_undefined_iff op b1 (joinBytes b2 b1)⟩

/-- Settles O1, word by word, each decoded by computation. -/
theorem writtenWordsDecode : Obligations.WrittenWordsDecode :=
  ⟨rfl, rfl, rfl, rfl, rfl, rfl, rfl, rfl, rfl, rfl, rfl⟩

end Sys2Proof
end

section
/-! PROOF. The 8-bit loads and stores (40_load8.md R141 to R159). Each form goes through the schedule it shares with the
others of its kind: a copy in the cycle at hand, or one read or write in the next cycle, at an address the registers
gave before it. -/

namespace Sys2Proof.Machine

open Sys2Proof.Claims

/-! ### The rows of the opcode table, by selector -/

/-- The row of an instruction whose number of machine cycles depends on no condition. -/
theorem tableRow_of_always {i : Instr} {bytes : List Byte} {n : Nat} (encoded : encode i = bytes)
    (always : tableCycles i = .always n) : TableRow i bytes n :=
  ⟨encoded, fun f => by rw [machineCycles, always]⟩

theorem ldRegReg_tableRow (dst src : Reg8) :
    TableRow (Instr.ldRegReg dst src) [byte (0x40 + 8 * reg8 dst + reg8 src)] 1 := by
  cases dst <;> cases src <;> exact tableRow_of_always rfl rfl

theorem ldRegImm_tableRow (r : Reg8) (n : Byte) : TableRow (Instr.ldRegImm r n) [byte (0x06 + 8 * reg8 r), n] 2 := by
  cases r <;> exact tableRow_of_always rfl rfl

theorem ldRegMem_tableRow (r : Reg8) : TableRow (Instr.ldRegMem r) [byte (0x46 + 8 * reg8 r)] 2 := by
  cases r <;> exact tableRow_of_always rfl rfl

theorem ldMemReg_tableRow (r : Reg8) : TableRow (Instr.ldMemReg r) [byte (0x70 + reg8 r)] 2 := by
  cases r <;> exact tableRow_of_always rfl rfl

/-! ### The meaning of an instruction, by its schedule -/

section
variable {i : Instr} {s : State}

/-- An instruction whose schedule is one terminal cycle. -/
theorem exec_last {f : State → State} (cycles : cyclesOf i = [last f]) : exec i s = .next (f s) := by
  rw [exec_eq, cycles, runCycles_last]

/-- An instruction that does its work in the machine cycle after the one that read its last byte. -/
theorem exec_idle_last {f : State → State} (cycles : cyclesOf i = [idle, last f]) :
    exec i s = .next (f (between s)) := by
  rw [exec_eq, cycles, runCycles_idle, runCycles_last]

/-- A load reads one machine cycle later, at the address the registers before that cycle give. -/
theorem exec_load {r : Reg8} {address : State → Word} {length a : Word}
    (cycles : cyclesOf i = loadCycles r address id length) (before : address (between s) = a) :
    exec i s = .next (((between s).setR8 r (memRead (between s) a)).advance length) := by
  rw [exec_idle_last cycles, before, id]

/-- A store writes one machine cycle later, the address and the byte as the registers before that cycle give them. -/
theorem exec_store {address : State → Word} {value : State → Byte} {length a : Word} {v : Byte}
    (cycles : cyclesOf i = storeCycles address value id length) (before : address (between s) = a)
    (byteBefore : value (between s) = v) : exec i s = .next ((memWrite (between s) a v).advance length) := by
  rw [exec_idle_last cycles, before, byteBefore, id]

/-- The address C names in the last page is the one it named a machine cycle before. -/
theorem lastPage_between_c (s : State) : lastPage ((between s).r8 .c) = 0xFF00 + s.cpu.c.setWidth 16 := by
  rw [between_r8]
  rfl

/-- A load of A reads at HL, and then HL steps from what it was. -/
theorem exec_load_stepHl {d hl : Word} (cycles : cyclesOf i = ldAHlStepCycles d) (stepped : s.hl + d = hl) :
    exec i s = .next ((((between s).setR8 .a (memRead (between s) s.hl)).setR16 .hl hl).advance 1) := by
  have kept (v : Byte) : ((between s).setR8 .a v).hl = s.hl := between_hl s
  rw [exec_idle_last cycles, stepHl, kept, between_hl, stepped]

/-- A store of A writes at HL, and then HL steps from what it was, whatever the bus did with the write. -/
theorem exec_store_stepHl {d hl : Word} (cycles : cyclesOf i = ldHlStepACycles d) (stepped : s.hl + d = hl) :
    exec i s = .next (((memWrite (between s) s.hl s.cpu.a).setR16 .hl hl).advance 1) := by
  have kept (a : Word) (v : Byte) : (memWrite (between s) a v).hl = s.hl := by
    rw [State.hl, memWrite_cpu]
    exact between_hl s
  have between_r8_a : (between s).r8 .a = s.cpu.a := between_r8 s .a
  simp only [exec_idle_last cycles, stepHl, kept, between_hl, between_r8_a, stepped]

end

/-! ### The statements -/

/-- Settles O42, by the row and the one cycle of each form. -/
theorem loadRegister : Obligations.LoadRegister :=
  ⟨fun dst src _ => ⟨ldRegReg_tableRow dst src, exec_last (cyclesOf_ldRegReg dst src)⟩,
    fun r n _ => ⟨ldRegImm_tableRow r n, exec_last (cyclesOf_ldRegImm r n)⟩⟩

/-- Settles O43, by `exec_load`: the cycle before the read keeps the registers an address is made of. -/
theorem loadFromMemory : Obligations.LoadFromMemory := fun s =>
  ⟨fun r => ⟨ldRegMem_tableRow r, exec_load (cyclesOf_ldRegMem r) (between_hl s)⟩,
    ⟨tableRow_of_always rfl rfl, exec_load rfl (between_r16 s .bc)⟩,
    ⟨tableRow_of_always rfl rfl, exec_load rfl (between_r16 s .de)⟩,
    fun _ => ⟨tableRow_of_always rfl rfl, exec_load rfl rfl⟩,
    ⟨tableRow_of_always rfl rfl, exec_load rfl (lastPage_between_c s)⟩,
    fun _ => ⟨tableRow_of_always rfl rfl, exec_load rfl rfl⟩⟩

/-- Settles O44, by `exec_store`: the cycle before the write keeps the registers the address and the byte come from. -/
theorem storeToMemory : Obligations.StoreToMemory := fun s =>
  ⟨fun r => ⟨ldMemReg_tableRow r, exec_store (cyclesOf_ldMemReg r) (between_hl s) (between_r8 s r)⟩,
    fun _ => ⟨tableRow_of_always rfl rfl, exec_store rfl (between_hl s) rfl⟩,
    ⟨tableRow_of_always rfl rfl, exec_store rfl (between_r16 s .bc) (between_r8 s .a)⟩,
    ⟨tableRow_of_always rfl rfl, exec_store rfl (between_r16 s .de) (between_r8 s .a)⟩,
    fun _ => ⟨tableRow_of_always rfl rfl, exec_store rfl rfl (between_r8 s .a)⟩,
    ⟨tableRow_of_always rfl rfl, exec_store rfl (lastPage_between_c s) (between_r8 s .a)⟩,
    fun _ => ⟨tableRow_of_always rfl rfl, exec_store rfl rfl (between_r8 s .a)⟩⟩

/-- Settles O45, by `exec_load_stepHl` and `exec_store_stepHl` with the steps -1 and 1. -/
theorem loadAndStoreStepHl : Obligations.LoadAndStoreStepHl := by
  intro s
  have down : s.hl + -1 = s.hl - 1 := (sub_eq_add_neg _ _).symm
  exact ⟨⟨tableRow_of_always rfl rfl, exec_load_stepHl rfl down⟩,
    ⟨tableRow_of_always rfl rfl, exec_store_stepHl rfl down⟩,
    ⟨tableRow_of_always rfl rfl, exec_load_stepHl rfl rfl⟩,
    ⟨tableRow_of_always rfl rfl, exec_store_stepHl rfl rfl⟩⟩

end Sys2Proof.Machine
end

section
/-! PROOF. The 16-bit loads and the stack (41_load16_stack.md R170 to R176), and ADD SP,e, whose sum and flags are those
of LD HL,SP+e (43_alu16.md R223). -/

namespace Sys2Proof.Machine

open Sys2Proof.Claims

/-! ### The rows of the opcode table, by selector -/

theorem ldPairImm_tableRow (rr : Reg16) (nn : Word) :
    TableRow (Instr.ldPairImm rr nn) [byte (0x01 + 16 * reg16 rr), loByte nn, hiByte nn] 3 := by
  cases rr <;> exact tableRow_of_always rfl rfl

theorem push_tableRow (rr : Reg16s) : TableRow (Instr.push rr) [byte (0xC5 + 16 * reg16s rr)] 4 := by
  cases rr <;> exact tableRow_of_always rfl rfl

theorem pop_tableRow (rr : Reg16s) : TableRow (Instr.pop rr) [byte (0xC1 + 16 * reg16s rr)] 3 := by
  cases rr <;> exact tableRow_of_always rfl rfl

/-! ### LD SP,HL and LD (nn),SP -/

theorem exec_ldSpHl (s : State) : exec .ld_sp_hl s = .next (((between s).setSp s.hl).advance 1) := by
  rw [exec_idle_last rfl, between_hl]

/-- SP is the same in the cycles of both writes. -/
theorem exec_ldAbsSp (nn : Word) (s : State) :
    exec (.ld_mnn_sp nn) s =
      .next ((memWrite (between (memWrite (between s) nn (loByte s.cpu.sp))) (nn + 1)
        (hiByte s.cpu.sp)).advance 3) := by
  simp only [exec_eq, cyclesOf, ldAbsSpCycles, runCycles_idle, runCycles_going, runCycles_last, memWrite_cpu,
    between_cpu_sp]

/-- Settles O46, by the row and the run of each form. -/
theorem loadPairs : Obligations.LoadPairs :=
  ⟨fun rr nn _ => ⟨ldPairImm_tableRow rr nn, exec_last (cyclesOf_ldPairImm rr nn)⟩,
    fun s => ⟨tableRow_of_always rfl rfl, exec_ldSpHl s⟩,
    fun nn s => ⟨tableRow_of_always rfl rfl, exec_ldAbsSp nn s⟩⟩

/-! ### PUSH and POP -/

theorem pushed_eq_pushWord (v : Word) (s : State) : pushed v s = pushWord s v := (pushWord_eq s v).symm

/-- The first write of a push leaves the pairs of the stack group: of the CPU it changes SP alone. -/
theorem pushByte_r16s (s : State) (v : Byte) (rr : Reg16s) : (pushByte s v).r16s rr = s.r16s rr := by
  rw [State.r16s, pushByte_eq, memWrite_cpu]
  cases rr <;> rfl

/-- The two writes of PUSH: both bytes come from the pair before the push, and PC goes on from what it was. -/
theorem runCycles_pushPair (rr : Reg16s) (s : State) :
    runCycles (pushThenJump (fun t => t.r16s rr) (fun t => t.cpu.pc + 1) id) s =
      (pushed (s.r16s rr) s).advance 1 := by
  have between_pushes : (between (pushByte s (hiByte (s.r16s rr)))).r16s rr = s.r16s rr := by
    rw [between_r16s, pushByte_r16s]
  rw [runCycles_pushThenJump rfl between_pushes, pushed_eq_pushWord, State.advance, pushWord_cpu, between_cpu_pc,
    pushByte_eq, memWrite_cpu]
  rfl

/-- PUSH leaves two machine cycles before its first write. -/
theorem exec_push (rr : Reg16s) (s : State) :
    exec (Instr.push rr) s = .next ((pushed (s.r16s rr) (between (between s))).advance 1) := by
  rw [exec_eq, cyclesOf_push, pushCycles, List.cons_append, List.singleton_append, runCycles_idle, runCycles_idle,
    runCycles_pushPair, between_r16s, between_r16s]

/-- The two reads of a pop: SP goes up by two, and the word waits in the pass-through. -/
theorem popHigh_between_popLow_eq_latched (s : State) :
    popHigh (between (popLow s)) =
      (((between s).setSp (s.cpu.sp + 2)).setD8 (memRead s s.cpu.sp)).setD16
        (joinBytes (memRead (between s) (s.cpu.sp + 1)) (memRead s s.cpu.sp)) := by
  rw [popHigh_between_popLow s rfl rfl, State.setD16, State.setD8, State.setSp, between_cpu]
  rfl

/-- The end of an instruction that sets a pair of the stack group clears what waited in the pass-through. -/
theorem advance_setR16s_of_latched (s : State) (rr : Reg16s) (v n d16 : Word) (d8 : Byte) :
    (((s.setD8 d8).setD16 d16).setR16s rr v).advance n = (s.setR16s rr v).advance n := by
  cases rr <;> rfl

/-- POP reads the low byte at SP and, one machine cycle later, the high byte at SP+1. -/
theorem exec_pop (rr : Reg16s) (s : State) :
    exec (Instr.pop rr) s =
      .next ((((between (between s)).setSp (s.cpu.sp + 2)).setR16s rr
        (joinBytes (memRead (between (between s)) (s.cpu.sp + 1)) (memRead (between s) s.cpu.sp))).advance 1) := by
  rw [exec_eq, cyclesOf_pop, popCycles, runCycles_idle, runCycles_going, runCycles_last,
    popHigh_between_popLow_eq_latched, advance_setR16s_of_latched, State.setD16_cpu_d16, between_cpu_sp]

/-- Settles O47, by the runs of the two forms and the layout of F (`Flags.toByte_low`, `Flags.ofByte`). -/
theorem pushAndPop : Obligations.PushAndPop := by
  intro rr s
  refine ⟨⟨push_tableRow rr, exec_push rr s, ?_⟩, pop_tableRow rr, exec_pop rr s, ?_, ?_⟩
  · exact (congrArg (· &&& 0x0F) (loByte_joinBytes _ _)).trans (Flags.toByte_low _)
  · exact hiByte_joinBytes _ _
  · exact congrArg Flags.ofByte (loByte_joinBytes _ _)

/-! ### SP plus a displacement -/

/-- The displacement as the unsigned byte of the flag sums. -/
theorem displacementByte_toNat (e : Int) : ((displacementByte e).toNat : Int) = e % 256 := by
  rw [displacementByte, BitVec.toNat_ofInt]
  omega

theorem addSpFlags_flagsAre (sp : Word) (e : Int) :
    FlagsAre (addSpFlags sp e) False False ((sp.toNat : Int) % 16 + e % 16 > 0xF)
      ((sp.toNat : Int) % 256 + e % 256 > 0xFF) := by
  have unsigned := displacementByte_toNat e
  refine ⟨Bool.false_eq_true.to_iff, Bool.false_eq_true.to_iff, decide_eq_true_iff.trans ?_,
    decide_eq_true_iff.trans ?_⟩
  all_goals omega

theorem exec_ldHlSp (e : Int) (s : State) :
    exec (.ld_hl_sp_e e) s =
      .next ((((between s).setR16 .hl (s.cpu.sp + displacementWord e)).setFlags
        (addSpFlags s.cpu.sp e)).advance 2) := by
  rw [exec_idle_last rfl, between_cpu_sp]

theorem exec_addSp (e : Int) (s : State) :
    exec (.add_sp_e e) s =
      .next ((((between (between s)).setSp (s.cpu.sp + displacementWord e)).setFlags
        (addSpFlags s.cpu.sp e)).advance 2) := by
  simp only [exec_eq, cyclesOf, addSpCycles, runCycles_idle, runCycles_last, between_cpu_sp]

/-- Settles O48, by the run of each form and the flags they share (`addSpFlags_flagsAre`). -/
theorem stackPointerPlusDisplacement : Obligations.StackPointerPlusDisplacement := fun e s =>
  ⟨⟨_, tableRow_of_always rfl rfl, exec_ldHlSp e s, addSpFlags_flagsAre s.cpu.sp e, rfl⟩,
    ⟨_, tableRow_of_always rfl rfl, exec_addSp e s, addSpFlags_flagsAre s.cpu.sp e, rfl⟩⟩

end Sys2Proof.Machine
end

section
/-! PROOF. 8-bit arithmetic and logic (42_alu8.md R185 to R202). The addition and subtraction laws of the model are
read over the integers once; every accumulator operation is one of them or a logical one. -/

namespace Sys2Proof.Machine

open Sys2Proof.Claims

/-! ### The laws of R185 over the integers -/

theorem carryIn_eq_num (c : Bool) : (carryIn c : Int) = num c := by cases c <;> rfl

theorem addByte_toNat (a b : Byte) (c : Bool) : ((addByte a b c).toNat : Int) = (a.toNat + b.toNat + num c) % 256 := by
  rw [addByte, BitVec.toNat_ofNat, ← carryIn_eq_num]
  omega

theorem subByte_toNat (a b : Byte) (c : Bool) : ((subByte a b c).toNat : Int) = (a.toNat - b.toNat - num c) % 256 := by
  rw [subByte, BitVec.toNat_ofInt, ← carryIn_eq_num]
  omega

theorem addFlags_flagsAre (a b : Byte) (c : Bool) :
    FlagsAre (addFlags a b c) (((a.toNat : Int) + b.toNat + num c) % 256 = 0) False
      ((a.toNat : Int) % 16 + (b.toNat : Int) % 16 + num c > 0xF) ((a.toNat : Int) + b.toNat + num c > 0xFF) := by
  rw [← carryIn_eq_num]
  refine ⟨beq_iff_eq.trans ?_, Bool.false_eq_true.to_iff, decide_eq_true_iff.trans ?_, decide_eq_true_iff.trans ?_⟩
  all_goals omega

theorem subFlags_flagsAre (a b : Byte) (c : Bool) :
    FlagsAre (subFlags a b c) (((a.toNat : Int) - b.toNat - num c) % 256 = 0) True
      ((a.toNat : Int) % 16 - (b.toNat : Int) % 16 - num c < 0) ((a.toNat : Int) - b.toNat - num c < 0) := by
  rw [← carryIn_eq_num]
  exact ⟨beq_iff_eq, iff_of_true rfl trivial, decide_eq_true_iff, decide_eq_true_iff⟩

/-! Without a carry in: ADD, SUB and CP. -/

@[simp] theorem num_false : num false = 0 := rfl

theorem addByte_false_toNat (a b : Byte) : ((addByte a b false).toNat : Int) = (a.toNat + b.toNat) % 256 := by
  rw [addByte_toNat, num_false, add_zero]

theorem addFlags_false_flagsAre (a b : Byte) :
    FlagsAre (addFlags a b false) (((a.toNat : Int) + b.toNat) % 256 = 0) False
      ((a.toNat : Int) % 16 + (b.toNat : Int) % 16 > 0xF) ((a.toNat : Int) + b.toNat > 0xFF) := by
  simpa only [num_false, add_zero] using addFlags_flagsAre a b false

theorem subByte_false_toNat (a b : Byte) : ((subByte a b false).toNat : Int) = (a.toNat - b.toNat) % 256 := by
  rw [subByte_toNat, num_false, sub_zero]

theorem subFlags_false_flagsAre (a b : Byte) :
    FlagsAre (subFlags a b false) (((a.toNat : Int) - b.toNat) % 256 = 0) True
      ((a.toNat : Int) % 16 < (b.toNat : Int) % 16) ((a.toNat : Int) < b.toNat) := by
  simpa only [num_false, sub_zero, sub_neg] using subFlags_flagsAre a b false

/-- The Z of CP: the difference of two bytes is 0 modulo 256 exactly when they are equal. -/
theorem toNat_sub_emod_eq_zero_iff (a b : Byte) :
    ((a.toNat : Int) - b.toNat) % 256 = 0 ↔ (a.toNat : Int) = b.toNat := by
  have := a.isLt
  have := b.isLt
  omega

theorem logicFlags_flagsAre (r : Byte) {h : Bool} {half : Prop} (iff : h = true ↔ half) :
    FlagsAre (logicFlags r h) (r = 0) False half False :=
  ⟨beq_iff_eq, Bool.false_eq_true.to_iff, iff, Bool.false_eq_true.to_iff⟩

/-! ### The accumulator operations -/

/-- What the model computes is what the rule of each operation says (42_alu8.md R187 to R194). -/
theorem accumulator_aluResult_aluFlags (op : AluOp) (a v : Byte) (f : Flags) :
    Accumulator op a v f (aluResult op a v f.c) (aluFlags op a v f.c) := by
  cases op
  case add => exact ⟨addByte_false_toNat a v, addFlags_false_flagsAre a v⟩
  case adc => exact ⟨addByte_toNat a v f.c, addFlags_flagsAre a v f.c⟩
  case sub => exact ⟨subByte_false_toNat a v, subFlags_false_flagsAre a v⟩
  case sbc => exact ⟨subByte_toNat a v f.c, subFlags_flagsAre a v f.c⟩
  case and => exact ⟨fun _ _ => BitVec.getLsbD_and, logicFlags_flagsAre _ (iff_of_true rfl trivial)⟩
  case xor => exact ⟨fun _ _ => BitVec.getLsbD_xor, logicFlags_flagsAre _ Bool.false_eq_true.to_iff⟩
  case or => exact ⟨fun _ _ => BitVec.getLsbD_or, logicFlags_flagsAre _ Bool.false_eq_true.to_iff⟩
  case cp =>
    refine ⟨rfl, ?_⟩
    rw [← toNat_sub_emod_eq_zero_iff]
    exact subFlags_false_flagsAre a v

theorem aluReg_tableRow (op : AluOp) (r : Reg8) :
    TableRow (Instr.aluReg op r) [byte (0x80 + 8 * aluOp op + reg8 r)] 1 := by
  cases op <;> cases r <;> exact tableRow_of_always rfl rfl

theorem aluMem_tableRow (op : AluOp) : TableRow (Instr.aluMem op) [byte (0x86 + 8 * aluOp op)] 2 := by
  cases op <;> exact tableRow_of_always rfl rfl

theorem aluImm_tableRow (op : AluOp) (n : Byte) : TableRow (Instr.aluImm op n) [byte (0xC6 + 8 * aluOp op), n] 2 := by
  cases op <;> exact tableRow_of_always rfl rfl

theorem exec_aluReg (op : AluOp) (r : Reg8) (s : State) :
    exec (Instr.aluReg op r) s = .next ((applyAlu op (s.r8 r) s).advance 1) := exec_last (cyclesOf_aluReg op r)

/-- The memory form reads its operand one machine cycle later, at HL as it was. -/
theorem exec_aluMem (op : AluOp) (s : State) :
    exec (Instr.aluMem op) s = .next ((applyAlu op (memRead (between s) s.hl) (between s)).advance 1) := by
  rw [exec_idle_last (cyclesOf_aluMem op), between_hl]

theorem exec_aluImm (op : AluOp) (n : Byte) (s : State) :
    exec (Instr.aluImm op n) s = .next ((applyAlu op n s).advance 2) := exec_last (cyclesOf_aluImm op n)

/-- Settles O49, by the run of each form and `accumulator_aluResult_aluFlags`. -/
theorem accumulatorOperations : Obligations.AccumulatorOperations := by
  refine fun op s => ⟨fun r => ?_, ?_, fun n => ?_⟩
  · exact ⟨_, aluReg_tableRow op r, exec_aluReg op r s, accumulator_aluResult_aluFlags op s.cpu.a (s.r8 r) s.cpu.f, rfl⟩
  · refine ⟨_, aluMem_tableRow op, exec_aluMem op s, ?_, rfl⟩
    rw [← between_cpu_a, ← between_cpu_f]
    exact accumulator_aluResult_aluFlags op (between s).cpu.a (memRead (between s) s.hl) (between s).cpu.f
  · exact ⟨_, aluImm_tableRow op n, exec_aluImm op n s, accumulator_aluResult_aluFlags op s.cpu.a n s.cpu.f, rfl⟩

/-! ### INC and DEC -/

theorem incFlags_flagsAre (v : Byte) (f : Flags) :
    FlagsAre (incFlags v f) (v = 0xFF) False (v.toNat % 16 = 0xF) (f.c = true) :=
  ⟨beq_iff_eq, Bool.false_eq_true.to_iff, beq_iff_eq, Iff.rfl⟩

theorem decFlags_flagsAre (v : Byte) (f : Flags) :
    FlagsAre (decFlags v f) (v = 0x01) True (v.toNat % 16 = 0) (f.c = true) :=
  ⟨beq_iff_eq, iff_of_true rfl trivial, beq_iff_eq, Iff.rfl⟩

theorem incReg_tableRow (r : Reg8) : TableRow (Instr.incReg r) [byte (0x04 + 8 * reg8 r)] 1 := by
  cases r <;> exact tableRow_of_always rfl rfl

theorem decReg_tableRow (r : Reg8) : TableRow (Instr.decReg r) [byte (0x05 + 8 * reg8 r)] 1 := by
  cases r <;> exact tableRow_of_always rfl rfl

/-- Settles O50, by the run of each form and the flags of its byte (`incFlags_flagsAre`, `decFlags_flagsAre`). -/
theorem incrementAndDecrement : Obligations.IncrementAndDecrement := fun s =>
  ⟨fun r => ⟨_, incReg_tableRow r, incFlags_flagsAre (s.r8 r) s.cpu.f, exec_last (cyclesOf_incReg r)⟩,
    fun r => ⟨_, decReg_tableRow r, decFlags_flagsAre (s.r8 r) s.cpu.f, exec_last (cyclesOf_decReg r)⟩,
    ⟨_, tableRow_of_always rfl rfl, incFlags_flagsAre (memRead (between s) s.hl) s.cpu.f,
      (exec_eq .inc_mhl s).trans (congrArg Host.Outcome.next (runCycles_incMem s))⟩,
    ⟨_, tableRow_of_always rfl rfl, decFlags_flagsAre (memRead (between s) s.hl) s.cpu.f,
      (exec_eq .dec_mhl s).trans (congrArg Host.Outcome.next (runCycles_decMem s))⟩⟩

/-! ### DAA, CPL, SCF and CCF -/

/-- DAA adjusts the low digit (42_alu8.md R199). -/
def daaLow (a : Byte) (f : Flags) : Bool := f.h || (!f.n && decide (a.toNat % 16 > 9))

/-- DAA adjusts the high digit (42_alu8.md R199). -/
def daaHigh (a : Byte) (f : Flags) : Bool := f.c || (!f.n && decide (a.toNat > 0x99))

theorem daaLow_iff (a : Byte) (f : Flags) :
    daaLow a f = true ↔ f.h = true ∨ (f.n = false ∧ (a.toNat : Int) % 16 > 9) := by
  simp only [daaLow, Bool.or_eq_true, Bool.and_eq_true, Bool.not_eq_true', decide_eq_true_eq]
  norm_cast

theorem daaHigh_iff (a : Byte) (f : Flags) :
    daaHigh a f = true ↔ f.c = true ∨ (f.n = false ∧ (a.toNat : Int) > 0x99) := by
  simp only [daaHigh, Bool.or_eq_true, Bool.and_eq_true, Bool.not_eq_true', decide_eq_true_eq]
  norm_cast

/-- Each digit has its own test, the same after an addition and a subtraction. -/
theorem daaAdjust_eq (a : Byte) (f : Flags) :
    daaAdjust a f = (if daaLow a f then 0x06 else 0) + (if daaHigh a f then 0x60 else 0) := by
  unfold daaAdjust daaLow daaHigh
  cases f.n <;> simp

/-- The adjustment is one of four, by the digits adjusted. -/
theorem daaAdjust_cases {a : Byte} {f : Flags} {low high : Prop} (hlow : daaLow a f = true ↔ low)
    (hhigh : daaHigh a f = true ↔ high) :
    (low ∧ high → (daaAdjust a f : Int) = 0x66) ∧ (low ∧ ¬high → (daaAdjust a f : Int) = 0x06) ∧
    (¬low ∧ high → (daaAdjust a f : Int) = 0x60) ∧ (¬low ∧ ¬high → (daaAdjust a f : Int) = 0) := by
  rw [daaAdjust_eq, ← hlow, ← hhigh]
  cases daaLow a f <;> cases daaHigh a f <;> simp

theorem daaResult_toNat (a : Byte) (f : Flags) :
    ((daaResult a f).toNat : Int) =
      (if f.n then (a.toNat : Int) - daaAdjust a f else a.toNat + daaAdjust a f) % 256 := by
  unfold daaResult
  split
  · rw [BitVec.toNat_ofInt]
    omega
  · rw [BitVec.toNat_ofNat]
    omega

theorem daaFlags_flagsAre (a : Byte) (f : Flags) :
    FlagsAre (daaFlags a f) (daaResult a f = 0) (f.n = true) False
      (f.c = true ∨ (f.n = false ∧ (a.toNat : Int) > 0x99)) :=
  ⟨beq_iff_eq, Iff.rfl, Bool.false_eq_true.to_iff, daaHigh_iff a f⟩

theorem exec_cpl_eq (s : State) :
    exec .cpl s =
      .next (((s.setR8 .a (~~~s.cpu.a)).setFlags { s.cpu.f with n := true, h := true }).advance 1) := by
  rw [exec_last rfl, ← BitVec.xor_allOnes]
  rfl

/-- Settles O51, by the one cycle of each instruction and the integer reading of DAA. -/
theorem accumulatorAdjustments : Obligations.AccumulatorAdjustments := by
  intro s
  obtain ⟨both, lowOnly, highOnly, neither⟩ :=
    daaAdjust_cases (daaLow_iff s.cpu.a s.cpu.f) (daaHigh_iff s.cpu.a s.cpu.f)
  exact ⟨⟨_, daaAdjust s.cpu.a s.cpu.f, tableRow_of_always rfl rfl, exec_last rfl, both, lowOnly, highOnly, neither,
      daaResult_toNat s.cpu.a s.cpu.f, daaFlags_flagsAre s.cpu.a s.cpu.f, rfl⟩,
    ⟨tableRow_of_always rfl rfl, exec_cpl_eq s⟩, ⟨tableRow_of_always rfl rfl, exec_eq .scf s⟩,
    ⟨tableRow_of_always rfl rfl, exec_eq .ccf s⟩⟩

/-! ### DAA after ADC -/

theorem carryIn_le_one (c : Bool) : carryIn c ≤ 1 := by cases c <;> decide

/-- After an addition the low digit is adjusted exactly when the sum of the low digits is no decimal digit. -/
theorem daaLow_add_iff (a b : Byte) (c : Bool) :
    daaLow (addByte a b c) (addFlags a b c) = true ↔ a.toNat % 16 + b.toNat % 16 + carryIn c > 9 := by
  have carry := carryIn_le_one c
  rw [daaLow_iff, addByte, BitVec.toNat_ofNat]
  simp only [addFlags, decide_eq_true_eq, true_and]
  omega

/-- After an addition the high digit is adjusted exactly when the sum exceeds what two decimal digits hold. -/
theorem daaHigh_add_iff (a b : Byte) (c : Bool) :
    daaHigh (addByte a b c) (addFlags a b c) = true ↔ a.toNat + b.toNat + carryIn c > 0x99 := by
  have carry := carryIn_le_one c
  have := a.isLt
  have := b.isLt
  rw [daaHigh_iff, addByte, BitVec.toNat_ofNat]
  simp only [addFlags, decide_eq_true_eq, true_and]
  omega

theorem daaResult_add_toNat (a b : Byte) (c : Bool) :
    (daaResult (addByte a b c) (addFlags a b c)).toNat =
      (a.toNat + b.toNat + carryIn c +
        ((if a.toNat % 16 + b.toNat % 16 + carryIn c > 9 then 0x06 else 0) +
          if a.toNat + b.toNat + carryIn c > 0x99 then 0x60 else 0)) % 256 := by
  have adjust := daaAdjust_eq (addByte a b c) (addFlags a b c)
  rw [if_congr (daaLow_add_iff a b c) rfl rfl, if_congr (daaHigh_add_iff a b c) rfl rfl] at adjust
  have added : (addFlags a b c).n = false := rfl
  rw [daaResult, added, if_neg Bool.false_ne_true, BitVec.toNat_ofNat, adjust, addByte, BitVec.toNat_ofNat]
  exact Nat.mod_add_mod _ _ _

/-- A byte made of two decimal digits. -/
theorem isBcd_bcd_of_digits {r : Byte} {hi lo : Nat} (hhi : hi ≤ 9) (hlo : lo ≤ 9) (digits : r.toNat = 16 * hi + lo) :
    IsBcd r ∧ bcd r = 10 * hi + lo := by
  unfold IsBcd bcd
  omega

/-- With the low digit decimal, 0x60 takes ten out of a high digit above 9. -/
theorem isBcd_bcd_of_highAdjusted {r : Byte} {hi lo : Nat} (hhi : hi ≤ 19) (hlo : lo ≤ 9)
    (adjusted : r.toNat = (16 * hi + lo + if hi > 9 then 0x60 else 0) % 256) :
    IsBcd r ∧ bcd r = (10 * hi + lo) % 100 := by
  by_cases high : hi > 9
  · have wraps : 16 * hi + lo + 0x60 = 16 * (hi - 10) + lo + 256 := by omega
    rw [if_pos high, wraps, Nat.add_mod_right, Nat.mod_eq_of_lt (by omega)] at adjusted
    obtain ⟨digits, value⟩ := isBcd_bcd_of_digits (by omega) hlo adjusted
    exact ⟨digits, by omega⟩
  · rw [if_neg high, Nat.add_zero, Nat.mod_eq_of_lt (by omega)] at adjusted
    obtain ⟨digits, value⟩ := isBcd_bcd_of_digits (by omega) hlo adjusted
    exact ⟨digits, by omega⟩

/-- Two sums of decimal digits: 6 takes ten out of a low digit above 9 and carries one into the high digit. -/
theorem isBcd_bcd_of_adjusted {r : Byte} {hi lo : Nat} (hhi : hi ≤ 18) (hlo : lo ≤ 19)
    (adjusted : r.toNat =
      (16 * hi + lo + ((if lo > 9 then 0x06 else 0) + if 16 * hi + lo > 0x99 then 0x60 else 0)) % 256) :
    IsBcd r ∧ bcd r = (10 * hi + lo) % 100 := by
  by_cases low : lo > 9
  · have carries : 16 * hi + lo + 0x06 = 16 * (hi + 1) + (lo - 10) := by omega
    have high : 16 * hi + lo > 0x99 ↔ hi + 1 > 9 := by omega
    rw [if_pos low, ← Nat.add_assoc, carries, if_congr high rfl rfl] at adjusted
    obtain ⟨digits, value⟩ := isBcd_bcd_of_highAdjusted (by omega) (by omega) adjusted
    exact ⟨digits, by omega⟩
  · have high : 16 * hi + lo > 0x99 ↔ hi > 9 := by omega
    rw [if_neg low, Nat.zero_add, if_congr high rfl rfl] at adjusted
    exact isBcd_bcd_of_highAdjusted (by omega) (by omega) adjusted

/-- DAA after an addition of packed BCD bytes gives the packed BCD sum modulo 100, and C the decimal carry. -/
theorem daa_add_bcd {a b : Byte} (ha : IsBcd a) (hb : IsBcd b) (c : Bool) :
    IsBcd (daaResult (addByte a b c) (addFlags a b c)) ∧
    bcd (daaResult (addByte a b c) (addFlags a b c)) = (bcd a + bcd b + carryIn c) % 100 ∧
    (daaHigh (addByte a b c) (addFlags a b c) = true ↔ 100 ≤ bcd a + bcd b + carryIn c) := by
  obtain ⟨a1, a0⟩ := ha
  obtain ⟨b1, b0⟩ := hb
  have carry := carryIn_le_one c
  have sum : a.toNat + b.toNat + carryIn c =
      16 * (a.toNat / 16 + b.toNat / 16) + (a.toNat % 16 + b.toNat % 16 + carryIn c) := by omega
  have decimal : bcd a + bcd b + carryIn c =
      10 * (a.toNat / 16 + b.toNat / 16) + (a.toNat % 16 + b.toNat % 16 + carryIn c) := by
    unfold bcd
    omega
  have adjusted := daaResult_add_toNat a b c
  rw [sum] at adjusted
  rw [decimal, daaHigh_add_iff, sum]
  obtain ⟨digits, value⟩ := isBcd_bcd_of_adjusted (by omega) (by omega) adjusted
  exact ⟨digits, value, by omega⟩

/-- Settles O52, by the runs of both instructions and `daa_add_bcd`. -/
theorem decimalAdjustAddsBcd : Obligations.DecimalAdjustAddsBcd := by
  intro s t u ha hb adc daa
  obtain rfl := Host.Outcome.next.inj ((exec_aluReg .adc .b s).symm.trans adc)
  obtain rfl := Host.Outcome.next.inj ((exec_eq .daa _).symm.trans daa)
  exact daa_add_bcd ha hb s.cpu.f.c

end Sys2Proof.Machine
end

section
/-! PROOF. 16-bit arithmetic (43_alu16.md R220 to R222). Each form works in its second machine cycle, on the pairs and
flags of the first. -/

namespace Sys2Proof.Machine

open Sys2Proof.Claims

theorem addHl_tableRow (rr : Reg16) : TableRow (Instr.addHl rr) [byte (0x09 + 16 * reg16 rr)] 2 := by
  cases rr <;> exact tableRow_of_always rfl rfl

theorem incPair_tableRow (rr : Reg16) : TableRow (Instr.incPair rr) [byte (0x03 + 16 * reg16 rr)] 2 := by
  cases rr <;> exact tableRow_of_always rfl rfl

theorem decPair_tableRow (rr : Reg16) : TableRow (Instr.decPair rr) [byte (0x0B + 16 * reg16 rr)] 2 := by
  cases rr <;> exact tableRow_of_always rfl rfl

theorem addHlFlags_flagsAre (hl v : Word) (f : Flags) :
    FlagsAre (addHlFlags hl v f) (f.z = true) False (hl.toNat % 4096 + v.toNat % 4096 > 0xFFF)
      (hl.toNat + v.toNat > 0xFFFF) :=
  ⟨Iff.rfl, Bool.false_eq_true.to_iff, decide_eq_true_iff, decide_eq_true_iff⟩

/-- The word written to HL is the sum of the naturals, narrowed. -/
theorem exec_addHl (rr : Reg16) (s : State) :
    exec (Instr.addHl rr) s =
      .next ((((between s).setR16 .hl (BitVec.ofNat 16 (s.hl.toNat + (s.r16 rr).toNat))).setFlags
        (addHlFlags s.hl (s.r16 rr) s.cpu.f)).advance 1) := by
  rw [exec_idle_last (cyclesOf_addHl rr), between_hl, between_r16, between_cpu_f, BitVec.add_def]

theorem exec_incPair (rr : Reg16) (s : State) :
    exec (Instr.incPair rr) s = .next (((between s).setR16 rr (s.r16 rr + 1)).advance 1) := by
  rw [exec_idle_last (cyclesOf_incPair rr), between_r16]

theorem exec_decPair (rr : Reg16) (s : State) :
    exec (Instr.decPair rr) s = .next (((between s).setR16 rr (s.r16 rr - 1)).advance 1) := by
  rw [exec_idle_last (cyclesOf_decPair rr), between_r16]

/-- Settles O53, by the row and the run of each form and the flags of the 16-bit sum (`addHlFlags_flagsAre`). -/
theorem pairArithmetic : Obligations.PairArithmetic := fun rr s =>
  ⟨⟨_, addHl_tableRow rr, addHlFlags_flagsAre s.hl (s.r16 rr) s.cpu.f, exec_addHl rr s⟩,
    ⟨incPair_tableRow rr, exec_incPair rr s⟩, ⟨decPair_tableRow rr, exec_decPair rr s⟩⟩

end Sys2Proof.Machine
end

section
/-! PROOF. Rotates, shifts and bit operations (44_rotate_shift_bit.md R230 to R247). A rotate or shift by one place is
read over the integers once for each direction, by the bit that comes in; the bits of RES and SET are those of one power
of two. -/

namespace Sys2Proof.Machine

open Sys2Proof.Claims

/-! ### A byte moved by one place -/

theorem getLsbD_zero_iff (v : Byte) : v.getLsbD 0 = true ↔ (v.toNat : Int) % 2 = 1 := by
  rw [BitVec.getLsbD, Nat.testBit_zero, decide_eq_true_iff]
  omega

theorem getLsbD_seven_iff (v : Byte) : v.getLsbD 7 = true ↔ (v.toNat : Int) ≥ 128 := by
  have := v.isLt
  rw [BitVec.getLsbD, Nat.testBit_eq_decide_div_mod_eq, decide_eq_true_iff]
  omega

theorem bitZero_toNat (v : Byte) : ((v.extractLsb' 0 1).toNat : Int) = v.toNat % 2 := by
  rw [BitVec.extractLsb'_toNat, Nat.shiftRight_zero]
  rfl

theorem bitSeven_toNat (v : Byte) : ((v.extractLsb' 7 1).toNat : Int) = v.toNat / 128 := by
  have := v.isLt
  rw [BitVec.extractLsb'_toNat, Nat.shiftRight_eq_div_pow]
  omega

theorem ofBool_toNat (c : Bool) : ((BitVec.ofBool c).toNat : Int) = num c := by cases c <;> rfl

/-- Two fields side by side, as numbers. -/
theorem toNat_append_eq_add {m n : Nat} (x : BitVec m) (y : BitVec n) : (x ++ y).toNat = 2 ^ n * x.toNat + y.toNat := by
  rw [BitVec.toNat_append, ← Nat.shiftLeft_add_eq_or_of_lt y.isLt, Nat.shiftLeft_eq, Nat.mul_comm]

/-- One place to the left, the bit `b` coming in below. -/
theorem movedLeft_toNat (v : Byte) (b : BitVec 1) :
    ((v.extractLsb' 0 7 ++ b : Byte).toNat : Int) = 2 * v.toNat % 256 + b.toNat := by
  rw [toNat_append_eq_add, BitVec.extractLsb'_toNat, Nat.shiftRight_zero]
  omega

/-- One place to the right, the bit `b` coming in above. -/
theorem movedRight_toNat (b : BitVec 1) (v : Byte) :
    ((b ++ v.extractLsb' 1 7 : Byte).toNat : Int) = v.toNat / 2 + 128 * b.toNat := by
  have := v.isLt
  rw [toNat_append_eq_add, BitVec.extractLsb'_toNat, Nat.shiftRight_eq_div_pow]
  omega

theorem swapped_toNat (v : Byte) :
    ((v.extractLsb' 0 4 ++ v.extractLsb' 4 4 : Byte).toNat : Int) = 16 * (v.toNat % 16) + v.toNat / 16 := by
  have := v.isLt
  rw [toNat_append_eq_add, BitVec.extractLsb'_toNat, BitVec.extractLsb'_toNat, Nat.shiftRight_zero,
    Nat.shiftRight_eq_div_pow]
  omega

/-! ### The rotates and shifts -/

/-- What the model computes is what the rule of each rotate and shift says (44_rotate_shift_bit.md R237 to R244). -/
theorem shift_shiftResult_shiftCarry (op : ShiftOp) (v : Byte) (c : Bool) :
    Shift op v c (shiftResult op v c) (shiftCarry op v) := by
  cases op
  case rlc => exact ⟨by rw [shiftResult, movedLeft_toNat, bitSeven_toNat], getLsbD_seven_iff v⟩
  case rrc => exact ⟨by rw [shiftResult, movedRight_toNat, bitZero_toNat], getLsbD_zero_iff v⟩
  case rl => exact ⟨by rw [shiftResult, movedLeft_toNat, ofBool_toNat], getLsbD_seven_iff v⟩
  case rr => exact ⟨by rw [shiftResult, movedRight_toNat, ofBool_toNat], getLsbD_zero_iff v⟩
  case sla => exact ⟨(movedLeft_toNat v 0#1).trans (add_zero _), getLsbD_seven_iff v⟩
  case sra => exact ⟨by rw [shiftResult, movedRight_toNat, bitSeven_toNat], getLsbD_zero_iff v⟩
  case swap => exact ⟨swapped_toNat v, rfl⟩
  case srl => exact ⟨(movedRight_toNat 0#1 v).trans (add_zero _), getLsbD_zero_iff v⟩

theorem shiftFlags_flagsAre (op : ShiftOp) (v : Byte) (c : Bool) :
    FlagsAre (shiftFlags op v c) (shiftResult op v c = 0) False False (shiftCarry op v = true) :=
  ⟨beq_iff_eq, Bool.false_eq_true.to_iff, Bool.false_eq_true.to_iff, Iff.rfl⟩

theorem shiftReg_tableRow (op : ShiftOp) (r : Reg8) :
    TableRow (Instr.shiftReg op r) [0xCB, byte (8 * shiftOp op + reg8 r)] 2 := by
  cases op <;> cases r <;> exact tableRow_of_always rfl rfl

theorem shiftMem_tableRow (op : ShiftOp) : TableRow (Instr.shiftMem op) [0xCB, byte (8 * shiftOp op + 6)] 4 := by
  cases op <;> exact tableRow_of_always rfl rfl

/-- The flags and the end of an instruction leave the register written before them. -/
theorem r8_advance_setFlags_setR8 (s : State) (r : Reg8) (v : Byte) (f : Flags) (n : Word) :
    (((s.setR8 r v).setFlags f).advance n).r8 r = v := State.r8_setR8_self s r v

/-- An instruction that reads the byte at HL in one machine cycle and writes it back in the next. -/
theorem exec_modifyMem {i : Instr} {result : Byte → Flags → Byte} {flags : Byte → Flags → Flags} (s : State)
    (cycles : cyclesOf i = modifyMemCycles result flags) :
    exec i s =
      .next (((memWrite (between (between s)) s.hl (result (memRead (between s) s.hl) s.cpu.f)).setFlags
        (flags (memRead (between s) s.hl) s.cpu.f)).advance 2) := by
  rw [exec_eq, cycles, runCycles_modifyMem]

/-- Settles O55, by the run of each form and the integer reading they share (`shift_shiftResult_shiftCarry`). -/
theorem rotatesAndShifts : Obligations.RotatesAndShifts := by
  refine fun op s => ⟨fun r => ?_, ?_⟩
  · refine ⟨_, shiftReg_tableRow op r, exec_last (cyclesOf_shiftReg op r), ?_⟩
    rw [r8_advance_setFlags_setR8]
    exact ⟨shift_shiftResult_shiftCarry op (s.r8 r) s.cpu.f.c, shiftFlags_flagsAre op (s.r8 r) s.cpu.f.c, rfl⟩
  · exact ⟨_, _, shiftMem_tableRow op, shift_shiftResult_shiftCarry op (memRead (between s) s.hl) s.cpu.f.c,
      shiftFlags_flagsAre op (memRead (between s) s.hl) s.cpu.f.c, exec_modifyMem s (cyclesOf_shiftMem op)⟩

/-- Settles O54, by the one cycle the four rotates of A share and the integer reading of the prefixed ones. -/
theorem accumulatorRotates : Obligations.AccumulatorRotates := by
  intro s rotates
  have rotate {i : Instr} {op : ShiftOp} {code : Byte} (row : TableRow i [code] 1)
      (cycles : cyclesOf i = accRotateCycles op) : rotates i op code :=
    ⟨_, row, exec_last cycles, shift_shiftResult_shiftCarry op s.cpu.a s.cpu.f.c, rfl, rfl, rfl, rfl⟩
  exact ⟨rotate (tableRow_of_always rfl rfl) rfl, rotate (tableRow_of_always rfl rfl) rfl,
    rotate (tableRow_of_always rfl rfl) rfl, rotate (tableRow_of_always rfl rfl) rfl⟩

/-! ### The bit operations -/

/-- The bits of `1 << b`. -/
theorem getLsbD_one_shiftLeft (b : Fin 8) (k : Nat) : (1#8 <<< b.val).getLsbD k = (k == b.val) := by
  rw [← BitVec.twoPow_eq, BitVec.getLsbD_twoPow, decide_eq_true b.isLt, Bool.true_and, Bool.beq_eq_decide_eq]
  exact decide_eq_decide.2 eq_comm

theorem getLsbD_resResult (b : Fin 8) (v : Byte) {k : Nat} (hk : k < 8) :
    (resResult b v).getLsbD k = (v.getLsbD k && k != b.val) := by
  rw [resResult, BitVec.getLsbD_and, BitVec.getLsbD_not, getLsbD_one_shiftLeft, decide_eq_true hk, Bool.true_and]
  rfl

theorem getLsbD_setResult (b : Fin 8) (v : Byte) (k : Nat) :
    (setResult b v).getLsbD k = (v.getLsbD k || k == b.val) := by
  rw [setResult, BitVec.getLsbD_or, getLsbD_one_shiftLeft]

theorem bitReg_tableRow (b : Fin 8) (r : Reg8) :
    TableRow (Instr.bitReg b r) [0xCB, byte (0x40 + 8 * b.val + reg8 r)] 2 := by
  fin_cases b <;> cases r <;> exact tableRow_of_always rfl rfl

theorem bitMem_tableRow (b : Fin 8) : TableRow (Instr.bitMem b) [0xCB, byte (0x46 + 8 * b.val)] 3 := by
  fin_cases b <;> exact tableRow_of_always rfl rfl

theorem resReg_tableRow (b : Fin 8) (r : Reg8) :
    TableRow (Instr.resReg b r) [0xCB, byte (0x80 + 8 * b.val + reg8 r)] 2 := by
  fin_cases b <;> cases r <;> exact tableRow_of_always rfl rfl

theorem resMem_tableRow (b : Fin 8) : TableRow (Instr.resMem b) [0xCB, byte (0x86 + 8 * b.val)] 4 := by
  fin_cases b <;> exact tableRow_of_always rfl rfl

theorem setReg_tableRow (b : Fin 8) (r : Reg8) :
    TableRow (Instr.setReg b r) [0xCB, byte (0xC0 + 8 * b.val + reg8 r)] 2 := by
  fin_cases b <;> cases r <;> exact tableRow_of_always rfl rfl

theorem setMem_tableRow (b : Fin 8) : TableRow (Instr.setMem b) [0xCB, byte (0xC6 + 8 * b.val)] 4 := by
  fin_cases b <;> exact tableRow_of_always rfl rfl

/-- BIT tests the byte at HL as it is one machine cycle later; there is no write-back. -/
theorem exec_bitMem (b : Fin 8) (s : State) :
    exec (Instr.bitMem b) s =
      .next (((between s).setFlags (bitFlags b (memRead (between s) s.hl) s.cpu.f)).advance 2) := by
  rw [exec_idle_last (cyclesOf_bitMem b), between_hl, between_cpu_f]

/-- The flags written with the byte at HL are those F already holds. -/
theorem exec_modifyMem_keepFlags {i : Instr} {result : Byte → Byte} (s : State)
    (cycles : cyclesOf i = modifyMemCycles (fun v _ => result v) (fun _ f => f)) :
    exec i s =
      .next ((memWrite (between (between s)) s.hl (result (memRead (between s) s.hl))).advance 2) := by
  have kept (a : Word) (v : Byte) : (memWrite (between (between s)) a v).cpu.f = s.cpu.f := by
    rw [memWrite_cpu, between_cpu_f, between_cpu_f]
  rw [exec_modifyMem s cycles, ← kept s.hl (result (memRead (between s) s.hl))]
  rfl

/-- Settles O56, by the row and the run of each form and the bits of its result. -/
theorem bitOperations : Obligations.BitOperations := fun b s =>
  ⟨fun r => ⟨bitReg_tableRow b r, exec_last (cyclesOf_bitReg b r)⟩,
    ⟨bitMem_tableRow b, exec_bitMem b s⟩,
    fun r => ⟨_, resReg_tableRow b r, fun _ => getLsbD_resResult b (s.r8 r), exec_last (cyclesOf_resReg b r)⟩,
    ⟨_, resMem_tableRow b, fun _ => getLsbD_resResult b _, exec_modifyMem_keepFlags s (cyclesOf_resMem b)⟩,
    fun r => ⟨_, setReg_tableRow b r, fun k _ => getLsbD_setResult b (s.r8 r) k, exec_last (cyclesOf_setReg b r)⟩,
    ⟨_, setMem_tableRow b, fun k _ => getLsbD_setResult b _ k, exec_modifyMem_keepFlags s (cyclesOf_setMem b)⟩⟩

end Sys2Proof.Machine
end

section
/-! PROOF. Control transfer (45_control.md R261 to R276). Calls and RST share one run, that of their two pushes and the
jump; the returns share another, that of their two pops and the write of PC; a condition splits a run in the cycle that
checks it. -/

namespace Sys2Proof.Machine

open Sys2Proof.Claims

/-! ### The rows of the opcode table, by selector -/

/-- The row of an instruction whose number of machine cycles depends on a condition. -/
theorem condTableRow_of_onCondition {i : Instr} {bytes : List Byte} {cc : Cond} {taken notTaken : Nat}
    (encoded : encode i = bytes) (conditional : tableCycles i = .onCondition cc taken notTaken) :
    CondTableRow i bytes cc taken notTaken :=
  ⟨encoded, fun f => by rw [machineCycles, conditional]⟩

theorem jpCond_condTableRow (cc : Cond) (nn : Word) :
    CondTableRow (Instr.jpCond cc nn) [byte (0xC2 + 8 * cond cc), loByte nn, hiByte nn] cc 4 3 := by
  cases cc <;> exact condTableRow_of_onCondition rfl rfl

theorem jrCond_condTableRow (cc : Cond) (e : Int) :
    CondTableRow (Instr.jrCond cc e) [byte (0x20 + 8 * cond cc), BitVec.ofInt 8 e] cc 3 2 := by
  cases cc <;> exact condTableRow_of_onCondition rfl rfl

theorem callCond_condTableRow (cc : Cond) (nn : Word) :
    CondTableRow (Instr.callCond cc nn) [byte (0xC4 + 8 * cond cc), loByte nn, hiByte nn] cc 6 3 := by
  cases cc <;> exact condTableRow_of_onCondition rfl rfl

theorem retCond_condTableRow (cc : Cond) : CondTableRow (Instr.retCond cc) [byte (0xC0 + 8 * cond cc)] cc 5 2 := by
  cases cc <;> exact condTableRow_of_onCondition rfl rfl

theorem rst_tableRow (y : Fin 8) : TableRow (Instr.rst y) [byte (0xC7 + 8 * y.val)] 4 := by
  fin_cases y <;> exact tableRow_of_always rfl rfl

/-! ### Jumps -/

/-- A conditional jump: its one more machine cycle if the condition holds, otherwise PC behind the instruction. -/
theorem exec_branch_last {i : Instr} {cc : Cond} {length : Word} {f : State → State} {s : State}
    (cycles : cyclesOf i = [branch cc length, last f]) :
    exec i s = .next (if condHolds cc s.cpu.f then f (between s) else s.advance length) := by
  rw [exec_eq, cycles, runCycles_branch, runCycles_last]

/-- The cycle before the jump keeps the PC a relative target is counted from. -/
theorem relativeTarget_between (e : Int) (s : State) :
    relativeTarget e (between s) = s.cpu.pc + 2 + BitVec.ofInt 16 e := by
  rw [relativeTarget, between_cpu_pc, displacementWord]

theorem exec_jr (e : Int) (s : State) :
    exec (.jr_e e) s = .next ((between s).retire (s.cpu.pc + 2 + BitVec.ofInt 16 e)) := by
  rw [exec_idle_last rfl, relativeTarget_between]

theorem exec_jrCond (cc : Cond) (e : Int) (s : State) :
    exec (Instr.jrCond cc e) s =
      .next (if condHolds cc s.cpu.f then (between s).retire (s.cpu.pc + 2 + BitVec.ofInt 16 e)
        else s.retire (s.cpu.pc + 2)) := by
  rw [exec_branch_last (cyclesOf_jrCond cc e), relativeTarget_between, State.advance]

/-- Settles O57, by the row of each form and its run: in the first cycle, in the second, or by the condition. -/
theorem jumps : Obligations.Jumps := fun s =>
  ⟨fun nn => ⟨tableRow_of_always rfl rfl, exec_idle_last (f := fun t => t.retire nn) rfl⟩,
    ⟨tableRow_of_always rfl rfl, exec_last (f := fun t => t.retire t.hl) rfl⟩,
    fun cc nn => ⟨jpCond_condTableRow cc nn, exec_branch_last (cyclesOf_jpCond cc nn)⟩,
    fun e => ⟨tableRow_of_always rfl rfl, exec_jr e s⟩,
    fun cc e => ⟨jrCond_condTableRow cc e, exec_jrCond cc e s⟩⟩

/-! ### Calls -/

/-- Both pushes of a call take their byte from the same return address, since a push leaves PC. -/
theorem runCycles_pushReturn (length target : Word) (s : State) :
    runCycles (pushThenJump (fun t => t.cpu.pc + length) (fun _ => target) id) s =
      (pushed (s.cpu.pc + length) s).retire target := by
  have kept : (between (pushByte s (hiByte (s.cpu.pc + length)))).cpu.pc = s.cpu.pc := by
    rw [between_cpu_pc, pushByte_cpu]
  rw [runCycles_pushThenJump rfl (congrArg (· + length) kept), pushed_eq_pushWord, id]

/-- A call or RST leaves two machine cycles before its first push. -/
theorem exec_idle_idle_pushReturn {i : Instr} {length target : Word} (s : State)
    (cycles : cyclesOf i =
      [idle, idle] ++ pushThenJump (fun t => t.cpu.pc + length) (fun _ => target) id) :
    exec i s = .next ((pushed (s.cpu.pc + length) (between (between s))).retire target) := by
  rw [exec_eq, cycles, List.cons_append, List.singleton_append, runCycles_idle, runCycles_idle, runCycles_pushReturn,
    between_cpu_pc, between_cpu_pc]

/-- The condition is checked in the first of the two cycles before the pushes. -/
theorem exec_callCond (cc : Cond) (nn : Word) (s : State) :
    exec (Instr.callCond cc nn) s =
      .next (if condHolds cc s.cpu.f then (pushed (s.cpu.pc + 3) (between (between s))).retire nn
        else s.retire (s.cpu.pc + 3)) := by
  rw [exec_eq, cyclesOf_callCond, callCondCycles, List.cons_append, List.singleton_append, runCycles_branch,
    runCycles_idle, callTail, runCycles_pushReturn, between_cpu_pc, between_cpu_pc, State.advance]

/-- Settles O58, by the row of each form and the run of its pushes (`runCycles_pushReturn`). -/
theorem calls : Obligations.Calls := fun s =>
  ⟨fun _ => ⟨tableRow_of_always rfl rfl, exec_idle_idle_pushReturn s rfl⟩,
    fun cc nn => ⟨callCond_condTableRow cc nn, exec_callCond cc nn s⟩,
    fun y => ⟨rst_tableRow y, exec_idle_idle_pushReturn s (cyclesOf_rst y)⟩⟩

/-! ### Returns -/

/-- The word popped goes to PC one machine cycle after its high byte is read; nothing of the pass-through is left. -/
theorem runCycles_returnCycles {s : State} {sp : Word} (after : State → State) (stack : s.cpu.sp = sp) :
    runCycles (returnCycles after) s =
      after (((between (between s)).setSp (sp + 2)).retire
        (joinBytes (memRead (between s) (sp + 1)) (memRead s sp))) := by
  subst stack
  rw [returnCycles, runCycles_going, runCycles_going, runCycles_last, popHigh_between_popLow s rfl rfl,
    between_withCpu _ _ (by rw [between_cpu]), State.setSp, between_cpu, between_cpu]
  rfl

/-- An unconditional return leaves one machine cycle before its first pop. -/
theorem exec_idle_returnCycles {i : Instr} {after : State → State} (s : State)
    (cycles : cyclesOf i = idle :: returnCycles after) :
    exec i s =
      .next (after (((between (between (between s))).setSp (s.cpu.sp + 2)).retire
        (joinBytes (memRead (between (between s)) (s.cpu.sp + 1)) (memRead (between s) s.cpu.sp)))) := by
  rw [exec_eq, cycles, runCycles_idle, runCycles_returnCycles after (between_cpu_sp s)]

/-- The condition is checked in the cycle after the fetch, with the flags of the fetch. -/
theorem exec_retCond (cc : Cond) (s : State) :
    exec (Instr.retCond cc) s =
      .next (if condHolds cc s.cpu.f then
          ((between (between (between (between s)))).setSp (s.cpu.sp + 2)).retire
            (joinBytes (memRead (between (between (between s))) (s.cpu.sp + 1))
              (memRead (between (between s)) s.cpu.sp))
        else (between s).retire (s.cpu.pc + 1)) := by
  have stack : (between (between s)).cpu.sp = s.cpu.sp := by rw [between_cpu_sp, between_cpu_sp]
  rw [exec_eq, cyclesOf_retCond, retCondCycles, List.cons_append, List.singleton_append, runCycles_idle,
    runCycles_branch, between_cpu_f, runCycles_returnCycles id stack, State.advance, between_cpu_pc, id]

/-- Settles O59, by the row of each form and the run of its pops (`runCycles_returnCycles`). -/
theorem returns : Obligations.Returns := fun s =>
  ⟨⟨tableRow_of_always rfl rfl, exec_idle_returnCycles (after := id) s rfl⟩,
    fun cc => ⟨retCond_condTableRow cc, exec_retCond cc s⟩,
    ⟨tableRow_of_always rfl rfl, exec_idle_returnCycles (after := enableInterrupts) s rfl⟩⟩

end Sys2Proof.Machine
end

section
/-! PROOF. System instructions, the undefined bytes and the instruction boundary (46_system.md R280 to R288,
60_exceptions.md R351, R360): the runs of the one-cycle forms, which instructions write the control state, how HALT sleeps
and wakes, and when EI takes effect. -/

namespace Sys2Proof.Machine

open Sys2Proof.Claims

/-! ### NOP, STOP, HALT and DI -/

theorem stop_of_nop2 {s : State} (mode : s.params.stopMode = .nop2) : stop s = s.advance 2 := by
  rw [stop, mode]

theorem stop_of_refuse {s : State} (mode : s.params.stopMode = .refuse) : stop s = raiseUndefined 0x10 s := by
  rw [stop, mode]

theorem exec_stop_eq (s : State) : exec .stop s = .next (stop s) := exec_last rfl

/-- Settles O60, by the row and the one cycle of each form, that of STOP by its parameter. -/
theorem systemInstructions : Obligations.SystemInstructions := fun s =>
  ⟨⟨tableRow_of_always rfl rfl, exec_last (f := fun s => s.advance 1) rfl⟩,
    ⟨tableRow_of_always rfl rfl, exec_last (f := halt) rfl⟩,
    ⟨tableRow_of_always rfl rfl, exec_last (f := disableInterrupts) rfl⟩,
    ⟨tableRow_of_always rfl rfl, fun _ => rfl,
      fun nop2 => by rw [exec_stop_eq, stop_of_nop2 nop2],
      fun refuse => by rw [exec_stop_eq, stop_of_refuse refuse, raiseUndefined]⟩⟩

/-! ### The undefined bytes -/

/-- An undefined byte takes one machine cycle, in which it stops the machine, and reads no operand. -/
theorem shape_of_undefined : ∀ p ∈ Instr.undefinedBytes,
    cyclesOf p.2 = undefinedCycles p.1 ∧ tableCycles p.2 = .always 1 ∧ operandReads p.1 = 0 := by
  simp only [Instr.undefinedBytes, List.forall_mem_cons, List.not_mem_nil, false_implies, implies_true, and_true]
  and_intros <;> rfl

section
variable {op : Byte} {i : Instr} {s : State}

theorem exec_of_undefined (listed : (op, i) ∈ Instr.undefinedBytes) (s : State) :
    exec i s = .next (raiseUndefined op s) := by
  obtain ⟨cycles, -, -⟩ := shape_of_undefined _ listed
  exact exec_last cycles

/-- The fetch of an undefined byte is its first cycle alone. -/
theorem fetched_of_undefined (listed : (op, i) ∈ Instr.undefinedBytes) (read : memRead s s.cpu.pc = op) :
    fetched s = fetchOpcode s := by
  obtain ⟨-, -, reads⟩ := shape_of_undefined _ listed
  rw [fetched, read, reads, readOperands]

theorem latched_of_undefined (listed : (op, i) ∈ Instr.undefinedBytes) (read : memRead s s.cpu.pc = op) :
    (fetchOpcode s).latched = i := by
  rw [State.latched, fetchOpcode, read]
  exact instrOf_of_undefined _ _ _ listed

/-- The step that fetches an undefined byte ends inside the fetch cycle: no device has its turn. -/
theorem step_of_undefined {s' : State} (atBoundary : AtBoundary s) (listed : (op, i) ∈ Instr.undefinedBytes)
    (h : boundary s = .fetch s') (read : memRead s' s'.cpu.pc = op) :
    step s = .next (raiseUndefined op (fetchOpcode s')) := by
  obtain ⟨running, stage⟩ := atBoundary
  rw [step_of_fetch running stage h, fetched_of_undefined listed read, latched_of_undefined listed read,
    exec_of_undefined listed]
  rfl

end

/-- Settles O16, by the step of the fetch (`step_of_undefined`) and the machine that is stopped after it. -/
theorem undefinedByteStopsTheMachine : Obligations.UndefinedByteStopsTheMachine := by
  intro op i listed
  obtain ⟨-, always, -⟩ := shape_of_undefined _ listed
  refine ⟨tableRow_of_always (encode_of_undefined _ listed) always, exec_of_undefined listed,
    fun s s' atBoundary h read => ?_⟩
  have stops := step_of_undefined atBoundary listed h read
  rw [raiseUndefined, fetchOpcode, read] at stops
  exact ⟨stops, step_of_fatal rfl, (systemStep_of_fatal (Option.some_ne_none _)).1⟩

/-! ### Which instructions write the control state and SP -/

/-- Which instructions change IME, `halted` and `fatal`, and which set the `ei` latch (45_control.md R274, 46_system.md
R281). -/
structure ControlWrites (i : Instr) (s t : Cpu) : Prop where
  ime : i ≠ .di → i ≠ .reti → t.ime = s.ime
  halted : i ≠ .halt → t.halted = s.halted
  ei : s.ei = false → t.ei = true → i = .ei
  fatal : t.fatal ≠ s.fatal → i = .stop ∨ ∃ op, (op, i) ∈ Instr.undefinedBytes

theorem ControlKept.controlWrites {s t : Cpu} (h : ControlKept s t) (i : Instr) : ControlWrites i s t := by
  obtain ⟨ime, halted, fatal, -, ei, -⟩ := h
  exact ⟨fun _ _ => ime, fun _ => halted, fun off on => absurd (on.symm.trans (ei off)) nofun,
    fun changed => absurd fatal changed⟩

theorem raiseUndefined_controlWrites {op : Byte} {i : Instr} (s : State)
    (stopping : i = .stop ∨ ∃ op, (op, i) ∈ Instr.undefinedBytes) :
    ControlWrites i s.cpu (raiseUndefined op s).cpu :=
  ⟨fun _ _ => rfl, fun _ => rfl, fun off on => absurd (on.symm.trans off) nofun, fun _ => stopping⟩

theorem undefined_controlWrites {i : Instr} (undefined : ∃ op, (op, i) ∈ Instr.undefinedBytes) (s : State) :
    ControlWrites i s.cpu (runCycles (cyclesOf i) s).cpu := by
  obtain ⟨op, listed⟩ := undefined
  obtain ⟨cycles, -, -⟩ := shape_of_undefined _ listed
  rw [cycles]
  exact raiseUndefined_controlWrites s (.inr ⟨op, listed⟩)

theorem advance_controlKept (s : State) (n : Word) : ControlKept s.cpu (s.advance n).cpu :=
  ⟨rfl, rfl, rfl, rfl, fun _ => rfl, fun _ => rfl⟩

theorem stop_controlWrites (s : State) : ControlWrites .stop s.cpu (stop s).cpu := by
  cases mode : s.params.stopMode
  case nop2 =>
    rw [stop_of_nop2 mode]
    exact (advance_controlKept s 2).controlWrites .stop
  case refuse =>
    rw [stop_of_refuse mode]
    exact raiseUndefined_controlWrites s (.inl rfl)

/-- RETI sets IME and leaves the rest of the control state. -/
theorem runCycles_reti_control (s : State) :
    (runCycles retiCycles s).cpu.ime = true ∧ (runCycles retiCycles s).cpu.halted = s.cpu.halted ∧
      (runCycles retiCycles s).cpu.ei = false ∧ (runCycles retiCycles s).cpu.fatal = s.cpu.fatal := by
  rw [retiCycles, runCycles_idle, runCycles_returnCycles enableInterrupts rfl]
  refine ⟨rfl, ?_, rfl, ?_⟩ <;> simp [enableInterrupts]

/-- The instructions about the control state, one by one. -/
theorem aboutControl_controlWrites {i : Instr} (h : Instr.aboutControl i = true) (s : State) :
    ControlWrites i s.cpu (runCycles (cyclesOf i) s).cpu := by
  cases i
  case di => exact ⟨fun di => absurd rfl di, fun _ => rfl, fun _ => nofun, fun changed => absurd rfl changed⟩
  case ei => exact ⟨fun _ _ => rfl, fun _ => rfl, fun _ _ => rfl, fun changed => absurd rfl changed⟩
  case halt => exact ⟨fun _ _ => rfl, fun halt => absurd rfl halt, fun _ => nofun, fun changed => absurd rfl changed⟩
  case reti =>
    obtain ⟨-, halted, ei, fatal⟩ := runCycles_reti_control s
    exact ⟨fun _ reti => absurd rfl reti, fun _ => halted, fun _ on => absurd (on.symm.trans ei) nofun,
      fun changed => absurd fatal changed⟩
  case stop => exact stop_controlWrites s
  case illegal_d3 | illegal_db | illegal_dd | illegal_e3 | illegal_e4 | illegal_eb | illegal_ec | illegal_ed |
      illegal_f4 | illegal_fc | illegal_fd =>
    exact undefined_controlWrites (by simp [Instr.undefinedBytes]) s
  all_goals cases h

theorem cyclesOf_controlWrites (i : Instr) (s : State) : ControlWrites i s.cpu (runCycles (cyclesOf i) s).cpu := by
  cases about : Instr.aboutControl i
  · exact (runCycles_controlKept _ s (cyclesOf_plain i about)).controlWrites i
  · exact aboutControl_controlWrites about s

/-- No cycle of an instruction outside 10_state.md R23 writes SP. -/
theorem cyclesOf_keepsSp {i : Instr} (h : writesSp i = false) : KeepsSp (cyclesOf i) := by
  cases i
  case ld_sp_nn | ld_sp_hl | add_sp_e | inc_sp | dec_sp | push_bc | push_de | push_hl | push_af | pop_bc | pop_de |
      pop_hl | pop_af | call_nn | call_nz_nn | call_z_nn | call_nc_nn | call_c_nn | ret | reti | ret_nz | ret_z |
      ret_nc | ret_c | rst_00 | rst_08 | rst_10 | rst_18 | rst_20 | rst_28 | rst_30 | rst_38 =>
    cases h
  all_goals simp [cyclesOf]

/-- The answer of an instruction is the end of its schedule's run. -/
theorem eq_runCycles_of_exec {i : Instr} {s t : State} (h : exec i s = .next t) : t = runCycles (cyclesOf i) s :=
  Host.Outcome.next.inj (h.symm.trans (exec_eq i s))

/-- Settles O17, by what each schedule writes of the control state (`cyclesOf_controlWrites`) and the schedules that keep
SP (`cyclesOf_keepsSp`). -/
theorem controlStateWriters : Obligations.ControlStateWriters := by
  intro i s t h
  obtain rfl := eq_runCycles_of_exec h
  obtain ⟨ime, halted, ei, fatal⟩ := cyclesOf_controlWrites i s
  exact ⟨ime, halted, ei, fatal, fun other => runCycles_sp _ s (cyclesOf_keepsSp other)⟩

/-! ### The decision of an instruction boundary (60_exceptions.md R360) -/

section
variable {s : State}

theorem boundary_of_sleeping (halted : s.cpu.halted = true) (none : s.pending = 0) : boundary s = .asleep :=
  if_pos (by simp [halted, none])

/-- A CPU that does not stay halted dispatches the source the check serves. -/
theorem boundary_of_served {k : Source} (awake : s.cpu.halted = true → s.pending ≠ 0)
    (served : (wakeIfHalted s).servedSource = some k) : boundary s = .dispatch k (wakeIfHalted s) := by
  rw [boundary, if_neg (by simpa using awake), served]

/-- If the check serves no source, a CPU that does not stay halted applies the latches and fetches. -/
theorem boundary_of_unserved (awake : s.cpu.halted = true → s.pending ≠ 0)
    (unserved : (wakeIfHalted s).servedSource = none) :
    boundary s = .fetch (applyDi (applyEi (wakeIfHalted s))) := by
  rw [boundary, if_neg (by simpa using awake), unserved]

theorem wakeIfHalted_of_halted (halted : s.cpu.halted = true) : wakeIfHalted s = wake s := if_pos halted

theorem wakeIfHalted_of_not_halted (h : s.cpu.halted = false) : wakeIfHalted s = s := if_neg (by simp [h])

theorem servedSource_of_masked (masked : s.cpu.ime = false) : s.servedSource = none := if_neg (by simp [masked])

theorem lowestSource_ne_none {p : BitVec 5} (h : p ≠ 0) : lowestSource p ≠ none := by
  revert p
  decide

/-- With IME set the check serves a source as soon as one is pending and enabled. -/
theorem servedSource_of_pending (enabled : s.cpu.ime = true) (pending : s.pending ≠ 0) :
    ∃ k, s.servedSource = some k := by
  rw [State.servedSource, if_pos enabled]
  exact Option.ne_none_iff_exists'.1 (lowestSource_ne_none pending)

theorem applyEi_of_set (set : s.cpu.ei = true) :
    applyEi s = { s with cpu := { s.cpu with ime := true, ei := false } } := if_pos set

theorem applyDi_of_clear (clear : s.cpu.di = false) : applyDi s = s := if_neg (by simp [clear])

theorem applyDi_applyEi_of_set (set : s.cpu.ei = true) (clear : s.cpu.di = false) :
    applyDi (applyEi s) = { s with cpu := { s.cpu with ime := true, ei := false } } := by
  rw [applyEi_of_set set]
  exact applyDi_of_clear clear

/-- The latches change neither PC nor anything outside the CPU, and do not halt it. -/
theorem applyDi_applyEi_keeps (s : State) :
    (applyDi (applyEi s)).cpu.pc = s.cpu.pc ∧ (applyDi (applyEi s)).cpu.halted = s.cpu.halted ∧
      (applyDi (applyEi s)).irq = s.irq := by
  unfold applyDi applyEi
  split_ifs <;> exact ⟨rfl, rfl, rfl⟩

/-! ### HALT -/

/-- The machine cycle of a CPU that stays halted is that of the devices and the host. -/
theorem step_of_sleeping (atBoundary : AtBoundary s) (halted : s.cpu.halted = true) (none : s.pending = 0) :
    step s = .next (endCycle s) := by
  obtain ⟨running, stage⟩ := atBoundary
  exact step_of_asleep running stage (boundary_of_sleeping halted none)

theorem boundary_of_woken_enabled (halted : s.cpu.halted = true) (pending : s.pending ≠ 0) (enabled : s.cpu.ime = true) :
    ∃ k, boundary s = .dispatch k (wake s) := by
  obtain ⟨k, served⟩ := servedSource_of_pending (s := wake s) enabled pending
  rw [← wakeIfHalted_of_halted halted] at served ⊢
  exact ⟨k, boundary_of_served (fun _ => pending) served⟩

theorem boundary_of_woken_masked (halted : s.cpu.halted = true) (pending : s.pending ≠ 0) (masked : s.cpu.ime = false) :
    boundary s = .fetch (applyDi (applyEi (wake s))) := by
  rw [← wakeIfHalted_of_halted halted]
  refine boundary_of_unserved (fun _ => pending) ?_
  rw [wakeIfHalted_of_halted halted]
  exact servedSource_of_masked masked

end

/-- Settles O40, by what the boundary of a halted CPU decides: to sleep, to dispatch or to fetch. -/
theorem haltSleepsAndWakes : Obligations.HaltSleepsAndWakes :=
  ⟨fun s => ⟨halt s, exec_last rfl, rfl, rfl, rfl, rfl⟩, fun s atBoundary halted =>
    ⟨fun none => ⟨step_of_sleeping atBoundary halted none, endCycle_cpu s⟩,
      boundary_of_woken_enabled halted,
      fun pending masked => ⟨_, boundary_of_woken_masked halted pending masked, applyDi_applyEi_keeps (wake s)⟩⟩⟩

/-! ### EI -/

/-- The boundary after EI applies the latch once its check has served no source. -/
theorem boundary_of_ei {s : State} (set : s.cpu.ei = true) (clear : s.cpu.di = false) (halted : s.cpu.halted = false)
    (unserved : s.servedSource = none) :
    boundary s = .fetch { s with cpu := { s.cpu with ime := true, ei := false } } := by
  have awake := wakeIfHalted_of_not_halted halted
  rw [boundary_of_unserved (by simp [halted]) (by rw [awake, unserved]), awake,
    applyDi_applyEi_of_set set clear]

/-- No instruction but DI clears IME. -/
theorem runCycles_ime_of_ne_di {i : Instr} {s : State} (enabled : s.cpu.ime = true) (notDi : i ≠ .di) :
    (runCycles (cyclesOf i) s).cpu.ime = true := by
  by_cases reti : i = .reti
  · subst reti
    obtain ⟨ime, -⟩ := runCycles_reti_control s
    exact ime
  · exact ((cyclesOf_controlWrites i s).ime notDi reti).trans enabled

/-- Settles O41, by the one cycle of EI, the boundary after it and what every other instruction leaves of IME. -/
theorem eiTakesEffectOneInstructionLate : Obligations.EiTakesEffectOneInstructionLate :=
  ⟨fun _ => ⟨tableRow_of_always rfl rfl, exec_last (f := armInterrupts) rfl⟩,
    fun _ _ => boundary_of_ei,
    fun _ _ _ h enabled notDi => eq_runCycles_of_exec h ▸ runCycles_ime_of_ne_di enabled notDi⟩

end Sys2Proof.Machine
end

section
/-! PROOF. The PPU's mode machine (50_ppu.md R300 to R312): what one `PpuAdvance` does, call by call, and from it the
length of every mode, the frame that starts with the LCD, and the requests of the LCD-status and vblank interrupts. -/

namespace Sys2Proof.Machine

open Sys2Proof.Claims

/-! ### What one call does -/

/-- What a call of `PpuAdvance` can do (50_ppu.md R302 to R312): idle with the LCD off, start a frame as the LCD comes on,
count four dots, or leave one of the four modes. -/
inductive PpuCall (s : State) : State → Prop
  | idle : s.ppu.lcdEn = false → PpuCall s (ppuOff s)
  | start : s.ppu.lcdEn = true → s.ppu.mode = .off → PpuCall s (enterMode .mode2 (setLy 0 s))
  | count : s.ppu.lcdEn = true → s.ppu.mode = .mode0 ∨ s.ppu.mode = .mode2 ∨ s.ppu.mode = .mode3 →
      s.ppu.dots + 4 < s.ppu.mode.dots → PpuCall s (setDots (s.ppu.dots + 4) s)
  | countVblank : s.ppu.lcdEn = true → s.ppu.mode = .mode1 → s.ppu.dots + 4 < 4560 →
      PpuCall s (countVblankLines (s.ppu.dots + 4) (setDots (s.ppu.dots + 4) s))
  | leave2 : s.ppu.lcdEn = true → s.ppu.mode = .mode2 → 80 ≤ s.ppu.dots + 4 →
      PpuCall s (enterMode .mode3 (searchObjects s))
  | leave3 : s.ppu.lcdEn = true → s.ppu.mode = .mode3 → 172 ≤ s.ppu.dots + 4 →
      PpuCall s (enterMode .mode0 (drawLine s))
  | leave0 : s.ppu.lcdEn = true → s.ppu.mode = .mode0 → 204 ≤ s.ppu.dots + 4 → s.ppu.ly ≠ 143 →
      PpuCall s (enterMode .mode2 (setLy (s.ppu.ly + 1) s))
  | vblank : s.ppu.lcdEn = true → s.ppu.mode = .mode0 → 204 ≤ s.ppu.dots + 4 → s.ppu.ly = 143 →
      PpuCall s (enterMode .mode1 ((setLy 144 s).request .vblank))
  | leave1 : s.ppu.lcdEn = true → s.ppu.mode = .mode1 → 4560 ≤ s.ppu.dots + 4 →
      PpuCall s (enterMode .mode2 (setLy 0 s))

section
variable {s : State} (on : s.ppu.lcdEn = true)
include on

theorem ppuAdvance_of_on : ppuAdvance s = ppuOn s := if_pos on

theorem ppuAdvance_start (mode : s.ppu.mode = .off) : ppuAdvance s = enterMode .mode2 (setLy 0 s) := by
  rw [ppuAdvance_of_on on, ppuOn, mode]

theorem ppuAdvance_mode0 (mode : s.ppu.mode = .mode0) : ppuAdvance s = advanceMode0 s := by
  rw [ppuAdvance_of_on on, ppuOn, mode]

theorem ppuAdvance_mode1 (mode : s.ppu.mode = .mode1) : ppuAdvance s = advanceMode1 s := by
  rw [ppuAdvance_of_on on, ppuOn, mode]

theorem ppuAdvance_mode2 (mode : s.ppu.mode = .mode2) : ppuAdvance s = advanceMode2 s := by
  rw [ppuAdvance_of_on on, ppuOn, mode]

theorem ppuAdvance_mode3 (mode : s.ppu.mode = .mode3) : ppuAdvance s = advanceMode3 s := by
  rw [ppuAdvance_of_on on, ppuOn, mode]

theorem ppuAdvance_leave2 (mode : s.ppu.mode = .mode2) (past : 80 ≤ s.ppu.dots + 4) :
    ppuAdvance s = enterMode .mode3 (searchObjects s) :=
  (ppuAdvance_mode2 on mode).trans (if_pos past)

theorem ppuAdvance_leave3 (mode : s.ppu.mode = .mode3) (past : 172 ≤ s.ppu.dots + 4) :
    ppuAdvance s = enterMode .mode0 (drawLine s) :=
  (ppuAdvance_mode3 on mode).trans (if_pos past)

theorem ppuAdvance_leave0 (mode : s.ppu.mode = .mode0) (past : 204 ≤ s.ppu.dots + 4) (line : s.ppu.ly ≠ 143) :
    ppuAdvance s = enterMode .mode2 (setLy (s.ppu.ly + 1) s) :=
  (ppuAdvance_mode0 on mode).trans ((if_pos past).trans (if_neg (by bv_omega)))

theorem ppuAdvance_vblank (mode : s.ppu.mode = .mode0) (past : 204 ≤ s.ppu.dots + 4) (line : s.ppu.ly = 143) :
    ppuAdvance s = enterMode .mode1 ((setLy 144 s).request .vblank) := by
  have next : s.ppu.ly + 1 = 144 := by rw [line]; rfl
  rw [ppuAdvance_mode0 on mode, advanceMode0, if_pos past, leaveMode0, next, if_pos rfl]

theorem ppuAdvance_leave1 (mode : s.ppu.mode = .mode1) (past : 4560 ≤ s.ppu.dots + 4) :
    ppuAdvance s = enterMode .mode2 (setLy 0 s) :=
  (ppuAdvance_mode1 on mode).trans (if_pos past)

/-- Inside a mode that draws a line, four dots go by. -/
theorem ppuAdvance_count (mode : s.ppu.mode = .mode0 ∨ s.ppu.mode = .mode2 ∨ s.ppu.mode = .mode3)
    (inside : s.ppu.dots + 4 < s.ppu.mode.dots) : ppuAdvance s = setDots (s.ppu.dots + 4) s := by
  obtain mode | mode | mode := mode <;> rw [mode] at inside
  · exact (ppuAdvance_mode0 on mode).trans (if_neg (Nat.not_le.2 inside))
  · exact (ppuAdvance_mode2 on mode).trans (if_neg (Nat.not_le.2 inside))
  · exact (ppuAdvance_mode3 on mode).trans (if_neg (Nat.not_le.2 inside))

theorem ppuAdvance_countVblank (mode : s.ppu.mode = .mode1) (inside : s.ppu.dots + 4 < 4560) :
    ppuAdvance s = countVblankLines (s.ppu.dots + 4) (setDots (s.ppu.dots + 4) s) :=
  (ppuAdvance_mode1 on mode).trans (if_neg (Nat.not_le.2 inside))

end

theorem ppuAdvance_of_disabled {s : State} (disabled : s.ppu.lcdEn = false) : ppuAdvance s = ppuOff s :=
  if_neg (by simp [disabled])

/-- Every call is one of the calls `PpuCall` lists. -/
theorem ppuAdvance_call (s : State) : PpuCall s (ppuAdvance s) := by
  cases on : s.ppu.lcdEn
  case false => exact ppuAdvance_of_disabled on ▸ .idle on
  case true =>
    cases mode : s.ppu.mode
    case off => exact ppuAdvance_start on mode ▸ .start on mode
    case mode0 =>
      by_cases past : 204 ≤ s.ppu.dots + 4
      · by_cases line : s.ppu.ly = 143
        · exact ppuAdvance_vblank on mode past line ▸ .vblank on mode past line
        · exact ppuAdvance_leave0 on mode past line ▸ .leave0 on mode past line
      · have inside : s.ppu.dots + 4 < s.ppu.mode.dots := by rw [mode]; exact Nat.lt_of_not_le past
        exact ppuAdvance_count on (.inl mode) inside ▸ .count on (.inl mode) inside
    case mode1 =>
      by_cases past : 4560 ≤ s.ppu.dots + 4
      · exact ppuAdvance_leave1 on mode past ▸ .leave1 on mode past
      · have inside := Nat.lt_of_not_le past
        exact ppuAdvance_countVblank on mode inside ▸ .countVblank on mode inside
    case mode2 =>
      by_cases past : 80 ≤ s.ppu.dots + 4
      · exact ppuAdvance_leave2 on mode past ▸ .leave2 on mode past
      · have inside : s.ppu.dots + 4 < s.ppu.mode.dots := by rw [mode]; exact Nat.lt_of_not_le past
        exact ppuAdvance_count on (.inr (.inl mode)) inside ▸ .count on (.inr (.inl mode)) inside
    case mode3 =>
      by_cases past : 172 ≤ s.ppu.dots + 4
      · exact ppuAdvance_leave3 on mode past ▸ .leave3 on mode past
      · have inside : s.ppu.dots + 4 < s.ppu.mode.dots := by rw [mode]; exact Nat.lt_of_not_le past
        exact ppuAdvance_count on (.inr (.inr mode)) inside ▸ .count on (.inr (.inr mode)) inside

/-! ### What a mode change leaves -/

@[simp] theorem enterMode_mode (m : PpuMode) (s : State) : (enterMode m s).ppu.mode = m := by
  obtain ⟨mode, -⟩ := enterMode_leaves m s
  exact mode

@[simp] theorem enterMode_ly (m : PpuMode) (s : State) : (enterMode m s).ppu.ly = s.ppu.ly := by
  obtain ⟨-, ly, -⟩ := enterMode_leaves m s
  exact ly

@[simp] theorem enterMode_lineObjs (m : PpuMode) (s : State) : (enterMode m s).ppu.lineObjs = s.ppu.lineObjs := by
  obtain ⟨-, -, lineObjs, -⟩ := enterMode_leaves m s
  exact lineObjs

@[simp] theorem enterMode_frame (m : PpuMode) (s : State) : (enterMode m s).ppu.frame = s.ppu.frame := by
  obtain ⟨-, -, -, frame, -⟩ := enterMode_leaves m s
  exact frame

@[simp] theorem enterMode_rowsReady (m : PpuMode) (s : State) : (enterMode m s).rowsReady = s.rowsReady := by
  obtain ⟨-, -, -, -, rowsReady⟩ := enterMode_leaves m s
  exact rowsReady

@[simp] theorem enterMode_dots (m : PpuMode) (s : State) : (enterMode m s).ppu.dots = 0 := by
  obtain ⟨dots, -⟩ := enterMode_begins m s
  exact dots

theorem Source.bit_getLsbD (k : Source) (i : Nat) : k.bit.getLsbD i = decide (k.index = i) := by
  have small : k.index < 5 := by cases k <;> decide
  show (BitVec.twoPow 5 k.index).getLsbD i = _
  rw [BitVec.getLsbD_twoPow, decide_eq_true small, Bool.true_and]

theorem State.requestIf_eq (s : State) (c : Bool) (k : Source) :
    s.requestIf c k = { s with irq := if c then { s.irq with iflag := s.irq.iflag ||| k.bit } else s.irq } := by
  cases c <;> rfl

theorem State.request_getLsbD (s : State) (k : Source) {i : Nat} (other : k.index ≠ i) :
    (s.request k).irq.iflag.getLsbD i = s.irq.iflag.getLsbD i := by
  rw [State.request_iflag, BitVec.getLsbD_or, Source.bit_getLsbD, decide_eq_false other, Bool.or_false]

/-- A mode change requests no interrupt but LCD-status (50_ppu.md R310). -/
theorem enterMode_iflag (m : PpuMode) (s : State) {i : Nat} (other : i ≠ 1) :
    (enterMode m s).irq.iflag.getLsbD i = s.irq.iflag.getLsbD i := by
  unfold enterMode statUpdate State.requestIf
  dsimp only
  split
  · exact State.request_getLsbD _ .lcdStat other.symm
  · rfl

theorem drawLine_irq (s : State) : (drawLine s).irq = s.irq := by
  unfold drawLine
  split <;> rfl

/-! ### A number of calls -/

theorem ppuCalls_succ (n : Nat) (s : State) : ppuCalls (n + 1) s = ppuAdvance (ppuCalls n s) := by
  induction n generalizing s with
  | zero => rfl
  | succ n ih => exact ih (ppuAdvance s)

@[simp] theorem ppuAdvance_lcdEn (s : State) : (ppuAdvance s).ppu.lcdEn = s.ppu.lcdEn := by
  rw [Ppu.lcdEn, (ppuAdvance_devicePart s).lcdc, Ppu.lcdEn]

section
variable {s : State} (on : s.ppu.lcdEn = true) (start : s.ppu.dots = 0)
include on start

/-- Inside a mode that draws a line, calls only count dots. -/
theorem ppuCalls_count (mode : s.ppu.mode = .mode0 ∨ s.ppu.mode = .mode2 ∨ s.ppu.mode = .mode3) {n : Nat}
    (inside : 4 * n < s.ppu.mode.dots) : ppuCalls n s = setDots (4 * n) s := by
  induction n with
  | zero =>
    show s = setDots 0 s
    rw [← start]
    rfl
  | succ n ih =>
    rw [ppuCalls_succ, ih (by omega)]
    exact ppuAdvance_count (s := setDots (4 * n) s) on mode inside

/-- Inside Mode1, calls count dots, and LY as the parameter says (50_ppu.md R309). -/
theorem ppuCalls_countVblank (mode : s.ppu.mode = .mode1) {n : Nat} (inside : n < 1140) :
    ∃ v, ppuCalls n s = setLy v (setDots (4 * n) s) ∧ (s.params.vblankLyCounts = false → v = s.ppu.ly) ∧
      (s.params.vblankLyCounts = true → s.ppu.ly = 144 → v.toNat = 144 + 4 * n / 456) := by
  induction n with
  | zero =>
    refine ⟨s.ppu.ly, ?_, fun _ => rfl, fun _ line => by rw [line]; rfl⟩
    show s = setLy s.ppu.ly (setDots 0 s)
    rw [← start]
    rfl
  | succ n ih =>
    obtain ⟨v, calls, stays, counts⟩ := ih (by omega)
    rw [ppuCalls_succ, calls,
      ppuAdvance_countVblank (s := setLy v (setDots (4 * n) s)) on mode (by show 4 * n + 4 < 4560; omega),
      countVblankLines_eq]
    refine ⟨_, rfl, fun off => ?_, fun counting line => ?_⟩
    · rw [countVblankLines, if_neg (by simp [setDots, setLy, off])]
      exact stays off
    · refine (countVblankLines_fits (d := 4 * n) (by omega) (by omega) ?_).trans (if_pos counting)
      exact (counts counting line).trans (if_pos counting).symm

/-- Mode2 lasts 20 calls. -/
theorem ppuCalls_mode2 (mode : s.ppu.mode = .mode2) :
    ppuCalls 20 s = enterMode .mode3 (searchObjects (setDots 76 s)) := by
  rw [ppuCalls_succ, ppuCalls_count on start (.inr (.inl mode)) (by rw [mode]; decide)]
  exact ppuAdvance_leave2 (s := setDots 76 s) on mode (Nat.le_refl 80)

/-- Mode3 lasts 43 calls. -/
theorem ppuCalls_mode3 (mode : s.ppu.mode = .mode3) :
    ppuCalls 43 s = enterMode .mode0 (drawLine (setDots 168 s)) := by
  rw [ppuCalls_succ, ppuCalls_count on start (.inr (.inr mode)) (by rw [mode]; decide)]
  exact ppuAdvance_leave3 (s := setDots 168 s) on mode (Nat.le_refl 172)

/-- Mode0 lasts 51 calls. -/
theorem ppuCalls_mode0 (mode : s.ppu.mode = .mode0) :
    ppuCalls 51 s = ppuAdvance (setDots 200 s) := by
  rw [ppuCalls_succ, ppuCalls_count on start (.inl mode) (by rw [mode]; decide)]

/-- Mode1 lasts 1140 calls. -/
theorem ppuCalls_mode1 (mode : s.ppu.mode = .mode1) :
    ∃ v, ppuCalls 1140 s = enterMode .mode2 (setLy 0 (setLy v (setDots 4556 s))) := by
  obtain ⟨v, calls, -⟩ := ppuCalls_countVblank on start mode (show 1139 < 1140 by decide)
  rw [ppuCalls_succ, calls]
  exact ⟨v, ppuAdvance_leave1 (s := setLy v (setDots 4556 s)) on mode (Nat.le_refl 4560)⟩

end

section
variable {s : State} (on : s.ppu.lcdEn = true) (mode : s.ppu.mode = .mode0) (past : 200 ≤ s.ppu.dots)
include on mode past

/-- The exit of Mode0, whichever mode follows (50_ppu.md R305, R312). -/
theorem ppuAdvance_leaveMode0 :
    (ppuAdvance s).ppu.mode = (if s.ppu.ly = 143 then .mode1 else .mode2) ∧ (ppuAdvance s).ppu.dots = 0 ∧
      (ppuAdvance s).ppu.ly = s.ppu.ly + 1 := by
  by_cases line : s.ppu.ly = 143
  · rw [ppuAdvance_vblank on mode (by omega) line, if_pos line, line]
    exact ⟨enterMode_mode _ _, enterMode_dots _ _, enterMode_ly _ _⟩
  · rw [ppuAdvance_leave0 on mode (by omega) line, if_neg line]
    exact ⟨enterMode_mode _ _, enterMode_dots _ _, enterMode_ly _ _⟩

end

/-- Settles O27, mode by mode: the calls inside the mode count (`ppuCalls_count`, `ppuCalls_countVblank`), and the last
one leaves it. -/
theorem ppuModeDurations : Obligations.PpuModeDurations := by
  intro s on start
  refine ⟨fun mode => ⟨fun n inside => ?_, ?_⟩, fun mode => ⟨fun n inside => ?_, ?_⟩,
    fun mode => ⟨fun n inside => ?_, ?_⟩, fun mode => ⟨fun n inside => ?_, ?_⟩⟩
  · rw [ppuCalls_count on start (.inr (.inl mode)) (by rw [mode, PpuMode.dots]; omega)]
    exact ⟨mode, rfl, rfl⟩
  · rw [ppuCalls_mode2 on start mode]
    exact ⟨enterMode_mode _ _, enterMode_dots _ _, enterMode_ly _ _⟩
  · rw [ppuCalls_count on start (.inr (.inr mode)) (by rw [mode, PpuMode.dots]; omega)]
    exact ⟨mode, rfl, rfl⟩
  · rw [ppuCalls_mode3 on start mode]
    exact ⟨enterMode_mode _ _, enterMode_dots _ _, (enterMode_ly _ _).trans (drawLine_ly _)⟩
  · rw [ppuCalls_count on start (.inl mode) (by rw [mode, PpuMode.dots]; omega)]
    exact ⟨mode, rfl, rfl⟩
  · rw [ppuCalls_mode0 on start mode]
    exact ppuAdvance_leaveMode0 (s := setDots 200 s) on mode (Nat.le_refl 200)
  · obtain ⟨v, calls, stays, counts⟩ := ppuCalls_countVblank on start mode inside
    rw [calls]
    exact ⟨mode, rfl, stays, counts⟩
  · obtain ⟨v, calls⟩ := ppuCalls_mode1 on start mode
    rw [calls]
    exact ⟨enterMode_mode _ _, enterMode_dots _ _, enterMode_ly _ _⟩

/-! ### The LCD turned off and on -/

/-- Settles O28: in Off both gates are open, so that the bus reads back what it wrote. -/
theorem lcdOffIdles : Obligations.LcdOffIdles := by
  intro s disabled
  rw [ppuAdvance_of_disabled disabled]
  refine ⟨rfl, fun a v range => ?_⟩
  obtain ⟨low, high⟩ | ⟨low, high⟩ := range
  · have vram := regionOf_vram low high
    rw [memWrite_vram vram, memRead_vram vram]
    exact Memory.read_write_self _ _ _
  · have oam := regionOf_oam low high
    rw [memWrite_oam oam, memRead_oam oam]
    exact Memory.read_write_self _ _ _

/-! ### Vblank (50_ppu.md R312) -/

/-- The call that requests vblank (50_ppu.md R312). -/
def VblankCall (s : State) : Prop :=
  s.ppu.lcdEn = true ∧ s.ppu.mode = .mode0 ∧ 200 ≤ s.ppu.dots ∧ s.ppu.ly = 143

/-- No other call requests vblank or enters Mode1. -/
theorem ppuAdvance_of_not_vblankCall {s : State} (other : ¬VblankCall s) :
    (ppuAdvance s).irq.iflag.getLsbD 0 = s.irq.iflag.getLsbD 0 ∧
      ((ppuAdvance s).ppu.mode = .mode1 → s.ppu.mode = .mode1) := by
  have call := ppuAdvance_call s
  generalize ppuAdvance s = t at call ⊢
  cases call with
  | idle => exact ⟨rfl, nofun⟩
  | count => exact ⟨rfl, id⟩
  | countVblank =>
    rw [countVblankLines_eq]
    exact ⟨rfl, id⟩
  | leave3 =>
    rw [← drawLine_irq s]
    exact ⟨enterMode_iflag _ _ (by decide), fun e => absurd ((enterMode_mode _ _).symm.trans e) nofun⟩
  | vblank on mode past line => exact absurd ⟨on, mode, by omega, line⟩ other
  | start | leave2 | leave0 | leave1 =>
    exact ⟨enterMode_iflag _ _ (by decide), fun e => absurd ((enterMode_mode _ _).symm.trans e) nofun⟩

/-- The call at the exit of the Mode0 of line 143 (50_ppu.md R310, R312). -/
theorem ppuAdvance_of_vblankCall {s : State} (call : VblankCall s) :
    (ppuAdvance s).ppu.mode = .mode1 ∧ (ppuAdvance s).ppu.ly = 144 ∧ (ppuAdvance s).irq.iflag.getLsbD 0 = true ∧
      (s.ppu.statEnables.getLsbD 1 = true → (ppuAdvance s).irq.iflag.getLsbD 1 = true) := by
  obtain ⟨on, mode, past, line⟩ := call
  rw [ppuAdvance_vblank on mode (by omega) line]
  refine ⟨enterMode_mode _ _, enterMode_ly _ _, ?_, fun enabled => ?_⟩
  · rw [enterMode_iflag _ _ (by decide), State.request_iflag, BitVec.getLsbD_or, Source.bit_getLsbD]
    exact Bool.or_true _
  · have asked : Ppu.entryEnabled s.ppu .mode1 = true := enabled
    rw [enterMode, statUpdate, State.requestIf_iflag, if_pos (by simpa [setLy, Ppu.entryEnabled] using .inr enabled),
      BitVec.getLsbD_or, Source.bit_getLsbD]
    exact Bool.or_true _

/-- Settles O31: the call is the exit of the Mode0 of line 143 (`VblankCall`), and no other (`ppuAdvance_call`). -/
theorem vblankRequestedOnce : Obligations.VblankRequestedOnce := by
  refine ⟨fun s effect => ?_, fun s on mode past => ⟨fun line => ppuAdvance_of_vblankCall ⟨on, mode, past, line⟩,
    fun line => ?_⟩⟩
  · show VblankCall s
    by_contra other
    obtain ⟨bit, entered⟩ := ppuAdvance_of_not_vblankCall other
    rw [bit] at effect
    obtain ⟨clear, set⟩ | ⟨outside, inside⟩ := effect
    · exact absurd (clear.symm.trans set) nofun
    · exact outside (entered inside)
  · obtain ⟨bit, -⟩ := ppuAdvance_of_not_vblankCall fun ⟨_, _, _, is143⟩ => line is143
    obtain ⟨next, -, ly⟩ := ppuAdvance_leaveMode0 on mode past
    exact ⟨next.trans (if_neg line), ly, bit⟩

/-! ### The first frame (50_ppu.md R302, R307) -/

/-- Where a frame stands `n` calls after its Mode2 of line 0 began: 114 calls a line, 20 in Mode2, 43 in Mode3 and 51 in
Mode0 (50_ppu.md R302). -/
structure FrameAt (n : Nat) (s : State) : Prop where
  on : s.ppu.lcdEn = true
  ly : s.ppu.ly.toNat = n / 114
  place : (n % 114 < 20 ∧ s.ppu.mode = .mode2 ∧ s.ppu.dots = 4 * (n % 114)) ∨
    (20 ≤ n % 114 ∧ n % 114 < 63 ∧ s.ppu.mode = .mode3 ∧ s.ppu.dots = 4 * (n % 114 - 20)) ∨
    (63 ≤ n % 114 ∧ s.ppu.mode = .mode0 ∧ s.ppu.dots = 4 * (n % 114 - 63))

/-- Of the 16416 calls of the visible lines only the last requests vblank. -/
theorem FrameAt.vblankCall_iff {n : Nat} {s : State} (h : FrameAt n s) (visible : n < 16416) :
    VblankCall s ↔ n = 16415 := by
  obtain ⟨on, ly, place⟩ := h
  constructor
  · rintro ⟨-, mode, past, line⟩
    rw [line] at ly
    have last : n / 114 = 143 := ly.symm
    obtain ⟨-, other, -⟩ | ⟨-, -, other, -⟩ | ⟨-, -, dots⟩ := place
    · exact absurd (mode.symm.trans other) nofun
    · exact absurd (mode.symm.trans other) nofun
    · omega
  · rintro rfl
    obtain ⟨early, -⟩ | ⟨-, early, -⟩ | ⟨-, mode, dots⟩ := place
    · exact absurd early (by decide)
    · exact absurd early (by decide)
    · exact ⟨on, mode, by rw [dots], BitVec.eq_of_toNat_eq ly⟩

/-- The calls of a line in order: the mode and its dots go on, and after 114 calls the next line begins. -/
theorem FrameAt.advance {n : Nat} {s : State} (h : FrameAt n s) (visible : n < 16415) :
    FrameAt (n + 1) (ppuAdvance s) := by
  have notLast : ¬VblankCall s := fun call => absurd ((h.vblankCall_iff (by omega)).1 call) (by omega)
  obtain ⟨on, ly, place⟩ := h
  suffices (ppuAdvance s).ppu.ly.toNat = (n + 1) / 114 ∧ _ from ⟨(ppuAdvance_lcdEn s).trans on, this.1, this.2⟩
  obtain ⟨early, mode, dots⟩ | ⟨late, early, mode, dots⟩ | ⟨late, mode, dots⟩ := place
  · by_cases exit : n % 114 = 19
    · rw [ppuAdvance_leave2 on mode (by omega), enterMode_ly, enterMode_mode, enterMode_dots]
      exact ⟨ly.trans (by omega), .inr (.inl ⟨by omega, by omega, rfl, by omega⟩)⟩
    · rw [ppuAdvance_count on (.inr (.inl mode)) (by rw [mode, PpuMode.dots]; omega)]
      exact ⟨ly.trans (by omega), .inl ⟨by omega, mode, (congrArg (· + 4) dots).trans (by omega)⟩⟩
  · by_cases exit : n % 114 = 62
    · rw [ppuAdvance_leave3 on mode (by omega), enterMode_ly, enterMode_mode, enterMode_dots, drawLine_ly]
      exact ⟨ly.trans (by omega), .inr (.inr ⟨by omega, rfl, by omega⟩)⟩
    · rw [ppuAdvance_count on (.inr (.inr mode)) (by rw [mode, PpuMode.dots]; omega)]
      exact ⟨ly.trans (by omega), .inr (.inl ⟨by omega, by omega, mode, (congrArg (· + 4) dots).trans (by omega)⟩)⟩
  · by_cases exit : n % 114 = 113
    · have line : s.ppu.ly ≠ 143 := fun line => notLast ⟨on, mode, by omega, line⟩
      have next : (s.ppu.ly + 1).toNat = (n + 1) / 114 := by
        have sum : (s.ppu.ly + 1).toNat = (s.ppu.ly.toNat + 1) % 256 := BitVec.toNat_add _ _
        omega
      rw [ppuAdvance_leave0 on mode (by omega) line, enterMode_ly, enterMode_mode, enterMode_dots]
      exact ⟨next, .inl ⟨by omega, rfl, by omega⟩⟩
    · rw [ppuAdvance_count on (.inl mode) (by rw [mode, PpuMode.dots]; omega)]
      exact ⟨ly.trans (by omega), .inr (.inr ⟨by omega, mode, (congrArg (· + 4) dots).trans (by omega)⟩)⟩

/-- From the start of a frame on, its calls stand where `FrameAt` says, and none before the last requests vblank. -/
theorem FrameAt.calls {s : State} (h : FrameAt 0 s) {n : Nat} (visible : n < 16416) :
    FrameAt n (ppuCalls n s) ∧ (ppuCalls n s).irq.iflag.getLsbD 0 = s.irq.iflag.getLsbD 0 := by
  induction n with
  | zero => exact ⟨h, rfl⟩
  | succ n ih =>
    obtain ⟨stands, bit⟩ := ih (by omega)
    have other : ¬VblankCall (ppuCalls n s) := fun call =>
      absurd ((stands.vblankCall_iff (by omega)).1 call) (by omega)
    rw [ppuCalls_succ, (ppuAdvance_of_not_vblankCall other).1]
    exact ⟨stands.advance (by omega), bit⟩

/-- Settles O29: the first call starts a frame (`FrameAt`), whose calls are followed up to the one that requests vblank. -/
theorem lcdOnStartsAFrame : Obligations.LcdOnStartsAFrame := by
  intro s on mode
  dsimp only
  have first := ppuAdvance_start on mode
  have begins : FrameAt 0 (ppuAdvance s) := by
    refine ⟨(ppuAdvance_lcdEn s).trans on, ?_, .inl ?_⟩ <;> rw [first]
    · rw [enterMode_ly]
      rfl
    · exact ⟨by decide, enterMode_mode _ _, enterMode_dots _ _⟩
  have bit : (ppuAdvance s).irq.iflag.getLsbD 0 = s.irq.iflag.getLsbD 0 := by
    rw [first]
    exact enterMode_iflag _ _ (by decide)
  have mode2 : (ppuAdvance s).ppu.mode = .mode2 := by rw [first, enterMode_mode]
  have dots : (ppuAdvance s).ppu.dots = 0 := by rw [first, enterMode_dots]
  obtain ⟨lasts, -⟩ := ppuModeDurations _ begins.on dots
  obtain ⟨during, exit, -⟩ := lasts mode2
  obtain ⟨last, -⟩ := begins.calls (show 16415 < 16416 by decide)
  obtain ⟨mode1, -, requested, -⟩ := ppuAdvance_of_vblankCall ((last.vblankCall_iff (by decide)).2 rfl)
  refine ⟨first, fun n inside => (during n inside).1, exit, fun n visible => ?_, ?_⟩
  · rw [(begins.calls visible).2, bit]
  · rw [ppuCalls_succ]
    exact ⟨mode1, requested⟩

/-! ### `StatUpdate` -/

/-- Every mode change with the LCD on is the end of `enterMode`, of a state with LY updated in which nothing but vblank
has been requested (50_ppu.md R310). -/
theorem ppuAdvance_enterMode {s : State} (on : s.ppu.lcdEn = true) (change : (ppuAdvance s).ppu.mode ≠ s.ppu.mode) :
    ∃ m u, ppuAdvance s = enterMode m u ∧ DevicePart s u ∧
      ∀ k : Nat, k ≠ 0 → u.irq.iflag.getLsbD k = s.irq.iflag.getLsbD k := by
  have call := ppuAdvance_call s
  generalize ppuAdvance s = t at call change ⊢
  cases call with
  | idle disabled => exact absurd (on.symm.trans disabled) nofun
  | count => exact absurd rfl change
  | countVblank =>
    rw [countVblankLines_eq] at change
    exact absurd rfl change
  | start | leave0 | leave1 => exact ⟨_, _, rfl, setLy_devicePart _ _, fun _ _ => rfl⟩
  | leave2 => exact ⟨_, _, rfl, searchObjects_devicePart _, fun _ _ => rfl⟩
  | leave3 => exact ⟨_, _, rfl, drawLine_devicePart _, fun k _ => by rw [drawLine_irq]⟩
  | vblank =>
    exact ⟨_, _, rfl, (setLy_devicePart _ _).trans (DevicePart.request _ _ (by decide)), fun k other =>
      State.request_getLsbD _ .vblank other.symm⟩

/-- A call that changes no mode requests nothing, compares nothing and leaves STAT's mode bits. -/
theorem ppuAdvance_of_same_mode {s : State} (same : (ppuAdvance s).ppu.mode = s.ppu.mode) :
    (ppuAdvance s).irq = s.irq ∧ (ppuAdvance s).ppu.coincidence = s.ppu.coincidence ∧
      (s.ppu.lcdEn = true → (ppuAdvance s).ppu.statMode = s.ppu.statMode) := by
  have call := ppuAdvance_call s
  generalize ppuAdvance s = t at call same ⊢
  cases call with
  | idle disabled => exact ⟨rfl, rfl, fun on => absurd (on.symm.trans disabled) nofun⟩
  | count => exact ⟨rfl, rfl, fun _ => rfl⟩
  | countVblank =>
    rw [countVblankLines_eq]
    exact ⟨rfl, rfl, fun _ => rfl⟩
  | start _ mode | leave2 _ mode | leave3 _ mode | leave0 _ mode | vblank _ mode | leave1 _ mode =>
    rw [enterMode_mode, mode] at same
    cases same

/-- The condition of `StatUpdate`'s request (50_ppu.md R310). -/
def State.statAsks (s : State) (m : PpuMode) : Bool :=
  (s.ppu.ly == s.ppu.lyc && s.ppu.statEnables.getLsbD 3) || s.ppu.entryEnabled m

theorem statAsks_iff (s : State) (m : PpuMode) :
    s.statAsks m = true ↔
      (s.ppu.ly = s.ppu.lyc ∧ s.ppu.statEnables.getLsbD 3 = true) ∨
      (m = .mode0 ∧ s.ppu.statEnables.getLsbD 0 = true) ∨ (m = .mode1 ∧ s.ppu.statEnables.getLsbD 1 = true) ∨
      (m = .mode2 ∧ s.ppu.statEnables.getLsbD 2 = true) := by
  cases m <;> simp [State.statAsks, Ppu.entryEnabled]

theorem statUpdate_eq (m : PpuMode) (s : State) :
    statUpdate m s = { s with
      ppu := { s.ppu with coincidence := s.ppu.ly == s.ppu.lyc, statMode := m.code }
      irq := if s.statAsks m then { s.irq with iflag := s.irq.iflag ||| 0b00010 } else s.irq } :=
  State.requestIf_eq _ (s.statAsks m) .lcdStat

/-- Settles O30, by the calls that change the mode (`ppuAdvance_enterMode`), those that do not, and `StatUpdate` itself. -/
theorem statUpdateRequests : Obligations.StatUpdateRequests := by
  refine ⟨fun s on change => ?_, fun s => ppuAdvance_of_same_mode, fun m s => ?_⟩
  · obtain ⟨m, u, call, part, bits⟩ := ppuAdvance_enterMode on change
    rw [call, enterMode_mode, enterMode_ly]
    exact ⟨_, rfl, rfl, rfl, part.lyc, part.statEnables, part.ie, bits⟩
  · dsimp only
    rw [← statAsks_iff, statUpdate_eq]
    refine ⟨beq_iff_eq, ?_, ?_, ?_, ?_, ?_, ?_, ?_⟩
    · rintro rfl; rfl
    · rintro rfl; rfl
    · rintro rfl; rfl
    · rintro rfl; rfl
    · intro asked; rw [if_pos asked]
    · exact fun silent => if_neg silent
    · cases s.statAsks m <;> rfl

end Sys2Proof.Machine
end

section
/-! PROOF. The picture (50_ppu.md R314 to R336): which sprites a line has and in which order they are drawn, what a
pixel of the background, the window and a sprite is, and when a line is drawn. -/

namespace Sys2Proof.Machine

open Sys2Proof.Claims

/-! ### The object search (50_ppu.md R314, R315) -/

/-- The first `n` entries of a rising list are the ones with fewer than `n` entries below them. -/
theorem mem_take_iff_of_rising {is : List (Fin 40)} (rising : is.Pairwise (· < ·)) (i : Fin 40) (n : Nat) :
    i ∈ is.take n ↔ i ∈ is ∧ (is.filter (decide <| · < i)).length < n := by
  induction is generalizing n with
  | nil => simp
  | cons j js ih =>
    obtain ⟨above, rising⟩ := List.pairwise_cons.1 rising
    cases n with
    | zero => simp
    | succ n =>
      rw [List.take_succ_cons, List.mem_cons, List.mem_cons, ih rising]
      by_cases first : i = j
      · have none : js.filter (decide <| · < j) = [] := by
          simp only [List.filter_eq_nil_iff, decide_eq_true_eq]
          exact fun k later => (above k later).asymm
        simp [first, none]
      · have counted (later : i ∈ js) : (j :: js).filter (decide <| · < i) = j :: js.filter (decide <| · < i) :=
          List.filter_cons_of_pos (decide_eq_true (above i later))
        simp only [first, false_or]
        refine and_congr_right fun later => ?_
        rw [counted later, List.length_cons, Nat.add_lt_add_iff_right]

theorem insertByX_cons (s : State) (i j : Fin 40) (js : List (Fin 40)) :
    insertByX s i (j :: js) = if objX s i < objX s j then i :: j :: js else j :: insertByX s i js := rfl

theorem mem_insertByX (s : State) (i j : Fin 40) (is : List (Fin 40)) : j ∈ insertByX s i is ↔ j = i ∨ j ∈ is := by
  induction is with
  | nil => simp [insertByX]
  | cons k ks ih =>
    rw [insertByX_cons]
    split_ifs
    · exact List.mem_cons
    · rw [List.mem_cons, List.mem_cons, ih]
      tauto

/-- `i` is sorted before `j`: it has the smaller x, or the same x and the lower index. -/
def SortedBefore (s : State) (i j : Fin 40) : Prop := objX s i < objX s j ∨ (objX s j = objX s i ∧ i < j)

/-- An entry of a higher index than all those of a sorted list is inserted in its place. -/
theorem insertByX_sorted (s : State) (i : Fin 40) {is : List (Fin 40)} (sorted : is.Pairwise (SortedBefore s))
    (lower : ∀ j ∈ is, j < i) : (insertByX s i is).Pairwise (SortedBefore s) := by
  induction is with
  | nil => exact List.pairwise_singleton _ _
  | cons j js ih =>
    obtain ⟨before, rest⟩ := List.pairwise_cons.1 sorted
    obtain ⟨ji, lower'⟩ := List.forall_mem_cons.1 lower
    rw [insertByX_cons]
    by_cases smaller : objX s i < objX s j
    case pos =>
      rw [if_pos smaller]
      refine List.pairwise_cons.2 ⟨List.forall_mem_cons.2 ⟨.inl smaller, fun k later => ?_⟩, sorted⟩
      obtain less | ⟨equal, -⟩ := before k later
      · exact .inl (smaller.trans less)
      · exact .inl (equal ▸ smaller)
    case neg =>
      rw [if_neg smaller]
      refine List.pairwise_cons.2 ⟨fun k member => ?_, ih rest lower'⟩
      obtain rfl | later := (mem_insertByX s i k js).1 member
      · obtain less | equal := Nat.lt_or_eq_of_le (Nat.le_of_not_lt smaller)
        · exact .inl less
        · exact .inr ⟨equal.symm, ji⟩
      · exact before k later

/-- Entries inserted in the order of their index, each above all before it, end up sorted, and none is lost. -/
theorem foldl_insertByX (s : State) {is sorted : List (Fin 40)} (rising : is.Pairwise (· < ·))
    (below : ∀ i ∈ is, ∀ j ∈ sorted, j < i) (before : sorted.Pairwise (SortedBefore s)) :
    (is.foldl (fun sorted i => insertByX s i sorted) sorted).Pairwise (SortedBefore s) ∧
      ∀ i, i ∈ is.foldl (fun sorted i => insertByX s i sorted) sorted ↔ i ∈ is ∨ i ∈ sorted := by
  induction is generalizing sorted with
  | nil => exact ⟨before, fun i => by simp⟩
  | cons i is ih =>
    obtain ⟨above, rising⟩ := List.pairwise_cons.1 rising
    obtain ⟨below, belows⟩ := List.forall_mem_cons.1 below
    have below' : ∀ k ∈ is, ∀ j ∈ insertByX s i sorted, j < k := by
      intro k later j member
      obtain rfl | earlier := (mem_insertByX s i j sorted).1 member
      · exact above k later
      · exact belows k later j earlier
    obtain ⟨sorted', members⟩ := ih rising below' (insertByX_sorted s i before below)
    refine ⟨sorted', fun j => (members j).trans ?_⟩
    rw [mem_insertByX, List.mem_cons]
    tauto

/-- The entries on the line that the search keeps, by rising index. -/
def keptObjects (s : State) : List (Fin 40) := ((List.finRange 40).filter (spriteOnLine s)).take 10

theorem objectSearch_eq (s : State) : objectSearch s = (sortByX s (keptObjects s)).reverse := rfl

theorem onLine_rising (s : State) : ((List.finRange 40).filter (spriteOnLine s)).Pairwise (· < ·) :=
  List.Pairwise.filter _ (List.pairwise_lt_finRange 40)

theorem mem_keptObjects (s : State) (i : Fin 40) :
    i ∈ keptObjects s ↔ spriteOnLine s i = true ∧
      ((List.finRange 40).filter fun j => decide (j < i) && spriteOnLine s j).length < 10 := by
  rw [keptObjects, mem_take_iff_of_rising (onLine_rising s), List.filter_filter, List.mem_filter]
  simp

theorem sortByX_kept (s : State) :
    (sortByX s (keptObjects s)).Pairwise (SortedBefore s) ∧ ∀ i, i ∈ sortByX s (keptObjects s) ↔ i ∈ keptObjects s := by
  obtain ⟨sorted, members⟩ := foldl_insertByX s (sorted := []) ((onLine_rising s).take (i := 10))
    (fun _ _ _ => nofun) .nil
  exact ⟨sorted, fun i => (members i).trans (by simp [keptObjects])⟩

theorem spriteOnLine_iff (s : State) (i : Fin 40) : spriteOnLine s i = true ↔ OnLine s i := by
  simp only [spriteOnLine, Bool.and_eq_true, decide_eq_true_eq]
  exact Iff.rfl

/-- Settles O32: the kept entries (`mem_keptObjects`), sorted by x and index (`sortByX_kept`) and reversed. -/
theorem objectSearchOrder : Obligations.ObjectSearchOrder := by
  intro s
  obtain ⟨sorted, members⟩ := sortByX_kept s
  refine ⟨objectSearch_length s, fun i => ?_, spriteOnLine_iff s, List.pairwise_reverse.2 sorted⟩
  rw [← spriteOnLine_iff, ← mem_keptObjects, ← members, objectSearch_eq, List.mem_reverse]

/-! ### Colors (50_ppu.md R326, R331; 10_state.md R50) -/

theorem bit_append_toNat (hi lo : Bool) : (bit hi ++ bit lo : BitVec (1 + 1)).toNat = 2 * hi.toNat + lo.toNat := by
  cases hi <;> cases lo <;> rfl

theorem colorNumber_toNat (lo hi : Byte) (b : Nat) :
    (colorNumber lo hi b).toNat = 2 * (hi.toNat / 2 ^ b % 2) + lo.toNat / 2 ^ b % 2 := by
  rw [← Nat.toNat_testBit, ← Nat.toNat_testBit]
  exact bit_append_toNat _ _

theorem paletteShade_toNat (palette : Byte) (c : BitVec 2) :
    (paletteShade palette c).toNat = palette.toNat / 4 ^ c.toNat % 4 := by
  rw [paletteShade, BitVec.extractLsb'_toNat, Nat.shiftRight_eq_div_pow, Nat.pow_mul]

/-! ### The background and the window (50_ppu.md R322 to R328) -/

theorem tileAddress_eq (p : Ppu) (entry : Byte) :
    tileAddress p entry =
      (if p.lcdc.getLsbD 4 then 0x8000 + 16 * entry.toNat else 0x9000 + 16 * entry.toInt : Int).toNat := by
  unfold tileAddress Ppu.tileData
  split <;> rfl

theorem mapColor_toNat (s : State) (base x y : Nat) : (mapColor s base x y).toNat = tilePixel s base x y := by
  rw [mapColor, colorNumber_toNat, tileAddress_eq]
  rfl

theorem windowAt_iff (p : Ppu) (q : Nat) :
    windowAt p q = true ↔ p.lcdc.getLsbD 5 = true ∧ p.wy.toNat ≤ p.ly.toNat ∧ (p.wx.toNat : Int) - 7 ≤ q := by
  have column : (p.wx.toNat : Int) - 7 ≤ q ↔ p.wx.toNat ≤ q + 7 := by omega
  rw [column, windowAt, Bool.and_eq_true, Bool.and_eq_true, decide_eq_true_eq, decide_eq_true_eq, and_assoc]
  exact Iff.rfl

/-- Settles O34, column by column: the window's pixel or the background's (`windowAt_iff`), its color number
(`mapColor_toNat`) through the palette (`paletteShade_toNat`). -/
theorem backgroundAndWindow : Obligations.BackgroundAndWindow := by
  intro s x h
  dsimp only
  rw [← windowAt_iff, backgroundRow, Vector.getElem_ofFn, bgWinShade, paletteShade_toNat]
  refine ⟨fun window => ?_, fun background => ?_⟩
  · rw [if_pos window, mapColor_toNat]
    rfl
  · have column : 8 * (s.ppu.scx.toNat / 8) + (x + s.ppu.scx.toNat % 8) = s.ppu.scx.toNat + x := by omega
    rw [if_neg background, mapColor_toNat, column]
    rfl

/-! ### Sprites (50_ppu.md R330 to R334) -/

theorem and_fe_toNat : ∀ t : Byte, (t &&& 0xFE).toNat = 2 * (t.toNat / 2) := by decide

/-- The sprite's tile row, by the coordinates of R330. -/
theorem spriteRowOffset_eq (s : State) (i : Fin 40) :
    spriteRowOffset s i =
      let y := (s.mem.read (0xFE00 + 4 * i.val)).toNat
      let t := (s.mem.read (0xFE00 + 4 * i.val + 2)).toNat
      let tall := s.ppu.lcdc.getLsbD 2
      let down : Int := s.ppu.ly.toNat + 16 - y
      let line : Int :=
        if (s.mem.read (0xFE00 + 4 * i.val + 3)).getLsbD 6 then (if tall then 15 else 7) - down else down
      16 * (if tall then 2 * (t / 2) + line / 8 else t : Int) + 2 * (line % 8) := by
  unfold spriteRowOffset Ppu.objHeight Ppu.objSize
  dsimp only
  rw [and_fe_toNat]
  cases s.ppu.lcdc.getLsbD 2 <;> rfl

theorem spriteColor_toNat (s : State) (i : Fin 40) {k : Nat} (inside : k < 8) :
    (spriteColor s i k).toNat = spritePixel s i k := by
  have column (flip : Bool) : (if flip then k else 7 - k) = 7 - if flip then 7 - k else k := by
    cases flip
    · rfl
    · exact (Nat.sub_sub_self (Nat.le_of_lt_succ inside)).symm
  have plane0 (o : Int) : spriteTileByte s o = spriteTileByte s (o + (0 : Nat)) := by rw [Nat.cast_zero, Int.add_zero]
  rw [spriteColor, colorNumber_toNat, column, plane0 (spriteRowOffset s i), spriteRowOffset_eq]
  rfl

/-- What a sprite pixel leaves of the shade under it (50_ppu.md R332, R333). -/
def spriteOver (s : State) (i : Fin 40) (k : Nat) (under : Shade) : Shade :=
  let attr := s.mem.read (0xFE00 + 4 * i.val + 3)
  if spriteColor s i k ≠ 0 ∧ (attr.getLsbD 7 = false ∨ under = 0) then
    paletteShade (if attr.getLsbD 4 then s.ppu.obp1 else s.ppu.obp0) (spriteColor s i k)
  else under

section
variable {s : State} {i : Fin 40} {k : Nat} {under : Shade}

theorem spriteOver_of_transparent (transparent : spriteColor s i k = 0) : spriteOver s i k under = under :=
  if_neg fun both => both.1 transparent

theorem spriteOver_of_hidden (hidden : ¬((oamByte s (4 * i.val + 3)).getLsbD 7 = false ∨ under = 0)) :
    spriteOver s i k under = under :=
  if_neg fun both => hidden both.2

theorem spriteOver_of_shown (solid : spriteColor s i k ≠ 0)
    (shown : (oamByte s (4 * i.val + 3)).getLsbD 7 = false ∨ under = 0) :
    spriteOver s i k under =
      paletteShade (if (oamByte s (4 * i.val + 3)).getLsbD 4 then s.ppu.obp1 else s.ppu.obp0) (spriteColor s i k) :=
  if_pos ⟨solid, shown⟩

end

/-- A pixel left or right of the row is not drawn. -/
theorem drawSpritePixel_outside {s : State} {i : Fin 40} (row : Row) {k : Nat}
    (outside : ¬(8 ≤ spriteX s i + k ∧ spriteX s i + k < 168)) : drawSpritePixel s i row k = row :=
  dif_neg fun drawn => outside drawn.2

/-- A pixel on the row leaves its column as `spriteOver` says. -/
theorem drawSpritePixel_inside {s : State} {i : Fin 40} (row : Row) {k : Nat} (left : 8 ≤ spriteX s i + k)
    (right : spriteX s i + k < 168) :
    drawSpritePixel s i row k =
      row.set (spriteX s i + k - 8) (spriteOver s i k row[spriteX s i + k - 8]) (by omega) := by
  by_cases solid : spriteColor s i k = 0
  · rw [spriteOver_of_transparent solid, Vector.set_getElem_self]
    exact dif_neg fun drawn => drawn.1 solid
  · refine (dif_pos ⟨solid, left, right⟩).trans ?_
    by_cases shown : (oamByte s (4 * i.val + 3)).getLsbD 7 = false ∨ row[spriteX s i + k - 8] = 0
    · rw [if_pos shown, spriteOver_of_shown solid shown]
    · rw [if_neg shown, spriteOver_of_hidden shown, Vector.set_getElem_self]

/-- A sprite pixel reaches one column of the row. -/
theorem drawSpritePixel_getElem (s : State) (i : Fin 40) (row : Row) (k : Nat) {x : Nat} (h : x < 160) :
    (drawSpritePixel s i row k)[x] = if x + 8 = objX s i + k then spriteOver s i k row[x] else row[x] := by
  show _ = if x + 8 = spriteX s i + k then _ else _
  by_cases inside : 8 ≤ spriteX s i + k ∧ spriteX s i + k < 168
  · have column : x + 8 = spriteX s i + k ↔ spriteX s i + k - 8 = x := by omega
    simp only [drawSpritePixel_inside row inside.1 inside.2, Vector.getElem_set, column]
    split
    case isTrue here => simp only [here]
    case isFalse => rfl
  · rw [drawSpritePixel_outside row inside, if_neg (by omega)]

/-- The first `n` pixels of a sprite, drawn from the left, reach the columns they cover and no other. -/
theorem foldl_drawSpritePixel_getElem (s : State) (i : Fin 40) (row : Row) (n : Nat) {x : Nat} (h : x < 160) :
    ((List.range n).foldl (drawSpritePixel s i) row)[x] =
      if objX s i ≤ x + 8 ∧ x + 8 < objX s i + n then spriteOver s i (x + 8 - objX s i) row[x] else row[x] := by
  induction n with
  | zero => rw [if_neg (by omega)]; rfl
  | succ n ih =>
    rw [List.range_succ, List.foldl_append, List.foldl_cons, List.foldl_nil, drawSpritePixel_getElem, ih]
    by_cases last : x + 8 = objX s i + n
    · rw [if_pos last, if_neg (by omega), if_pos (by omega), last, Nat.add_sub_cancel_left]
    · have covered : (objX s i ≤ x + 8 ∧ x + 8 < objX s i + (n + 1)) ↔ objX s i ≤ x + 8 ∧ x + 8 < objX s i + n := by
        omega
      simp only [if_neg last, covered]

theorem drawSprite_getElem (s : State) (row : Row) (i : Fin 40) {x : Nat} (h : x < 160) :
    (drawSprite s row i)[x] =
      if objX s i ≤ x + 8 ∧ x + 8 < objX s i + 8 then spriteOver s i (x + 8 - objX s i) row[x] else row[x] :=
  foldl_drawSpritePixel_getElem s i row 8 h

theorem spriteOver_toNat (s : State) (i : Fin 40) {k : Nat} (inside : k < 8) (under : Shade) :
    let attr := s.mem.read (0xFE00 + 4 * i.val + 3)
    let c := spritePixel s i k
    (spriteOver s i k under).toNat =
      if c ≠ 0 ∧ (attr.getLsbD 7 = false ∨ under = 0) then
        (if attr.getLsbD 4 then s.ppu.obp1 else s.ppu.obp0).toNat / 4 ^ c % 4
      else under.toNat := by
  have solid : spriteColor s i k ≠ 0 ↔ spritePixel s i k ≠ 0 := by
    rw [← spriteColor_toNat s i inside, ne_eq, BitVec.toNat_eq]
    rfl
  simp only [spriteOver, solid]
  rw [apply_ite BitVec.toNat, paletteShade_toNat, spriteColor_toNat s i inside]

/-- Settles O33, from what a sprite leaves of each column (`drawSprite_getElem`). -/
theorem spriteOverwritesOnlyItsPixels : Obligations.SpriteOverwritesOnlyItsPixels := by
  intro s row i x h
  dsimp only
  rw [drawSprite_getElem s row i h]
  by_cases covered : objX s i ≤ x + 8 ∧ x + 8 < objX s i + 8
  · rw [if_pos covered, spriteOver_toNat s i (by omega)]
    simp only [covered, true_and]
  · rw [if_neg covered, if_neg fun ⟨left, right, _⟩ => covered ⟨left, right⟩]

/-! ### When a line is drawn (50_ppu.md R304, R320, R335) -/

theorem drawLine_of_visible {s : State} (visible : s.ppu.ly.toNat < 144) :
    drawLine s = { s with
      ppu := { s.ppu with frame := s.ppu.frame.set s.ppu.ly.toNat (lineRow s) }
      rowsReady := s.rowsReady ++ [{ ly := s.ppu.ly, row := lineRow s }] } :=
  dif_pos visible

/-- Only the exit of Mode2 writes `line_objs`. -/
theorem ppuAdvance_lineObjs {s : State}
    (other : ¬(s.ppu.lcdEn = true ∧ s.ppu.mode = .mode2 ∧ 80 ≤ s.ppu.dots + 4)) :
    (ppuAdvance s).ppu.lineObjs = s.ppu.lineObjs := by
  have call := ppuAdvance_call s
  generalize ppuAdvance s = t at call ⊢
  cases call with
  | idle | count => rfl
  | countVblank => rw [countVblankLines_eq]; rfl
  | leave2 on mode past => exact absurd ⟨on, mode, past⟩ other
  | leave3 => rw [enterMode_lineObjs, (drawLine_leaves s).1]
  | start | leave0 | vblank | leave1 => exact enterMode_lineObjs _ _

/-- Only the exit of Mode3 writes the frame and hands out a row. -/
theorem ppuAdvance_frame {s : State}
    (other : ¬(s.ppu.lcdEn = true ∧ s.ppu.mode = .mode3 ∧ 172 ≤ s.ppu.dots + 4)) :
    (ppuAdvance s).ppu.frame = s.ppu.frame ∧ (ppuAdvance s).rowsReady = s.rowsReady := by
  have call := ppuAdvance_call s
  generalize ppuAdvance s = t at call ⊢
  cases call with
  | idle | count => exact ⟨rfl, rfl⟩
  | countVblank => rw [countVblankLines_eq]; exact ⟨rfl, rfl⟩
  | leave3 on mode past => exact absurd ⟨on, mode, past⟩ other
  | start | leave2 | leave0 | vblank | leave1 => exact ⟨enterMode_frame _ _, enterMode_rowsReady _ _⟩

/-! ### A blank screen (50_ppu.md R336) -/

section
variable {s : State}

/-- With OAM blank no sprite is on a line. -/
theorem objectSearch_of_blank (oam : ∀ a, 0xFE00 ≤ a → a ≤ 0xFE9F → s.mem.read a = 0) : objectSearch s = [] := by
  have offLine (i : Fin 40) : spriteOnLine s i = false := by
    have y : oamByte s (4 * i.val) = 0 := oam _ (by omega) (by omega)
    have height : s.ppu.objHeight ≤ 16 := by unfold Ppu.objHeight; split <;> decide
    simp [spriteOnLine, y]
    omega
  have none : keptObjects s = [] := by simp [keptObjects, offLine]
  rw [objectSearch_eq, none]
  rfl

theorem colorNumber_of_blank (b : Nat) : colorNumber 0 0 b = 0 :=
  BitVec.eq_of_toNat_eq (by simp [colorNumber_toNat])

theorem tileMapBase_cases (high : Bool) : tileMapBase high = 0x9800 ∨ tileMapBase high = 0x9C00 := by
  cases high
  · exact .inl rfl
  · exact .inr rfl

theorem tileAddress_zero (p : Ppu) : tileAddress p 0 = 0x8000 ∨ tileAddress p 0 = 0x9000 := by
  unfold tileAddress
  cases p.tileData
  · exact .inr rfl
  · exact .inl rfl

/-- With VRAM blank every pixel of a tile map has color number 0. -/
theorem mapColor_of_blank (vram : ∀ a, 0x8000 ≤ a → a ≤ 0x9FFF → s.mem.read a = 0) (high : Bool) {x y : Nat}
    (hx : x < 256) (hy : y < 256) : mapColor s (tileMapBase high) x y = 0 := by
  have map := tileMapBase_cases high
  have tile := tileAddress_zero s.ppu
  have entry : vramByte s (tileMapBase high + 32 * (y / 8) + x / 8) = 0 := vram _ (by omega) (by omega)
  have low : vramByte s (tileAddress s.ppu 0 + 2 * (y % 8)) = 0 := vram _ (by omega) (by omega)
  have high : vramByte s (tileAddress s.ppu 0 + 2 * (y % 8) + 1) = 0 := vram _ (by omega) (by omega)
  rw [mapColor, entry, low, high, colorNumber_of_blank]

/-- With VRAM blank and the palette of reset the background and window row is white. -/
theorem backgroundRow_of_blank (visible : s.ppu.ly.toNat < 144) (palette : s.ppu.bgp = 0xE4)
    (vram : ∀ a, 0x8000 ≤ a → a ≤ 0x9FFF → s.mem.read a = 0) :
    backgroundRow s = Vector.replicate 160 (0 : Shade) := by
  have white : paletteShade s.ppu.bgp 0 = 0 := by rw [palette]; decide
  refine Vector.ext fun x hx => ?_
  rw [backgroundRow, Vector.getElem_ofFn, Vector.getElem_replicate, bgWinShade]
  dsimp only
  split
  · rw [mapColor_of_blank vram _ (by omega) (by omega), white]
  · rw [mapColor_of_blank vram _ (by omega) (by omega), white]

end

/-- Settles O35: the row of a visible line (`drawLine_of_visible`), the calls that search and draw (`ppuAdvance_call`), and
the white row of a blank screen. -/
theorem blankScreenIsWhite : Obligations.BlankScreenIsWhite := by
  refine ⟨fun s visible => drawLine_of_visible visible, fun s => ?_, fun s visible palette vram oam => ?_⟩
  · refine ⟨fun ⟨on, mode, past⟩ => ?_, fun ⟨on, mode, past⟩ => ?_, ppuAdvance_lineObjs, ppuAdvance_frame⟩
    · rw [ppuAdvance_leave2 on mode past]
      exact ⟨enterMode_mode _ _, enterMode_lineObjs _ _⟩
    · rw [ppuAdvance_leave3 on mode past]
      exact ⟨enterMode_mode _ _, enterMode_frame _ _, enterMode_rowsReady _ _⟩
  · have row : lineRow (searchObjects s) = Vector.replicate 160 (0 : Shade) := by
      rw [lineRow, searchObjects, objectSearch_of_blank oam]
      exact backgroundRow_of_blank visible palette vram
    dsimp only
    rw [drawLine_of_visible (s := searchObjects s) visible, row]
    exact ⟨rfl, rfl⟩

end Sys2Proof.Machine
end

section
/-! PROOF. The timer's tick and the joypad (60_exceptions.md R366, R367, R378; 10_state.md R42, R44). -/

namespace Sys2Proof.Machine

/-! ### The timer (60_exceptions.md R366, R367) -/

theorem Timer.period_eq (t : Timer) : t.period = ([1024, 16, 64, 256] : List Nat).getD (t.tac.toNat % 4) 0 := by
  unfold Timer.period
  generalize t.tac = tac
  revert tac
  decide

theorem Timer.enabled_iff (t : Timer) : t.enabled = true ↔ 4 ≤ t.tac.toNat := by
  unfold Timer.enabled
  generalize t.tac = tac
  revert tac
  decide

theorem Timer.wraps_iff (t : Timer) : t.wraps = true ↔ t.period ≤ t.div.toNat % t.period + 4 := decide_eq_true_iff

section
variable {s : State}

theorem timerTick_of_quiet (quiet : ¬(s.timer.enabled = true ∧ s.timer.wraps = true)) :
    timerTick s = { s with timer := { s.timer with div := s.timer.div + 4 } } :=
  if_neg (by rwa [Bool.and_eq_true])

theorem timerTick_of_overflow (enabled : s.timer.enabled = true) (wraps : s.timer.wraps = true)
    (full : s.timer.tima = 0xFF) :
    timerTick s =
      { s with timer := { s.timer with div := s.timer.div + 4, tima := s.timer.tma } }.request .timer :=
  (if_pos (by rw [enabled, wraps]; rfl)).trans (if_pos full)

theorem timerTick_of_step (enabled : s.timer.enabled = true) (wraps : s.timer.wraps = true)
    (room : s.timer.tima ≠ 0xFF) :
    timerTick s = { s with timer := { s.timer with div := s.timer.div + 4, tima := s.timer.tima + 1 } } :=
  (if_pos (by rw [enabled, wraps]; rfl)).trans (if_neg room)

/-- A tick changes the counter, TIMA and the interrupt flags alone. -/
theorem timerTick_frame (s : State) :
    timerTick s =
      { s with
        timer := { s.timer with div := (timerTick s).timer.div, tima := (timerTick s).timer.tima }
        irq := (timerTick s).irq } := by
  by_cases ticks : s.timer.enabled = true ∧ s.timer.wraps = true
  · by_cases full : s.timer.tima = 0xFF
    · rw [timerTick_of_overflow ticks.1 ticks.2 full]
      rfl
    · rw [timerTick_of_step ticks.1 ticks.2 full]
  · rw [timerTick_of_quiet ticks]

end

/-- Settles O26, by whether the timer is enabled, the low bits of the counter wrap and TIMA is full. -/
theorem timerTicks : Obligations.TimerTicks := by
  intro s
  dsimp only
  rw [← Timer.period_eq]
  refine ⟨?_, fun quiet => ?_, fun enabled wraps room => ?_, fun enabled wraps full => ?_, timerTick_frame s⟩
  · rw [timerTick_div, BitVec.toNat_add]
    rfl
  · have quiet : ¬(s.timer.enabled = true ∧ s.timer.wraps = true) := by
      rw [Timer.enabled_iff, Timer.wraps_iff]
      omega
    rw [timerTick_of_quiet quiet]
    exact ⟨rfl, rfl⟩
  · rw [timerTick_of_step (s.timer.enabled_iff.2 enabled) (s.timer.wraps_iff.2 wraps) room]
    exact ⟨by bv_omega, rfl⟩
  · rw [timerTick_of_overflow (s.timer.enabled_iff.2 enabled) (s.timer.wraps_iff.2 wraps) full]
    exact ⟨rfl, rfl⟩

/-! ### The joypad (60_exceptions.md R378) -/

theorem Buttons.get_set_self (p : Buttons) (button : Button) (v : Bool) : (p.set button v).get button = v := by
  cases button <;> rfl

theorem Buttons.get_set_ne (p : Buttons) {button other : Button} (v : Bool) (ne : other ≠ button) :
    (p.set button v).get other = p.get other := by
  cases button <;> cases other <;> simp_all [Buttons.get, Buttons.set]

theorem Joypad.selects_iff (j : Joypad) (button : Button) :
    j.selects button = true ↔
      (button ∈ ([.right, .left, .up, .down] : List Button) ∧ j.selDir = false) ∨
      (button ∈ ([.a, .b, .select, .start] : List Button) ∧ j.selAction = false) := by
  cases button <;> simp [Joypad.selects]

/-- A line change of a running machine: the line, and the request of a release in a selected group. -/
theorem joypadSet_of_running {s : State} (c : LineChange) (running : s.cpu.fatal = none) :
    joypadSet s c =
      { s with
        joypad := { s.joypad with pressed := s.joypad.pressed.set c.button c.pressed }
        irq :=
          if s.joypad.pressed.get c.button && !c.pressed && s.joypad.selects c.button then
            { s.irq with iflag := s.irq.iflag ||| 0b10000 }
          else s.irq } :=
  (if_neg (by simp [running])).trans (State.requestIf_eq _ _ .joypad)

/-- Settles O36, by the line change of a running machine (`joypadSet_of_running`). -/
theorem joypadReleaseRequests : Obligations.JoypadReleaseRequests := by
  refine ⟨fun s v => by rw [memWrite_io (r := .joyp) rfl]; rfl,
    fun s c fatal => if_pos (Option.isSome_iff_ne_none.2 fatal), fun s c running => ?_⟩
  dsimp only
  have releases :
      (s.joypad.pressed.get c.button && !c.pressed && s.joypad.selects c.button) = true ↔
        s.joypad.pressed.get c.button = true ∧ c.pressed = false ∧ s.joypad.selects c.button = true := by
    rw [Bool.and_eq_true, Bool.and_eq_true, Bool.not_eq_true', and_assoc]
  rw [← Joypad.selects_iff, ← releases, joypadSet_of_running c running]
  exact ⟨Buttons.get_set_self _ _ _, fun other ne => Buttons.get_set_ne _ _ ne, fun release => if_pos release,
    fun keep => if_neg keep, rfl⟩

end Sys2Proof.Machine
end

section
/-! PROOF. Interrupts (60_exceptions.md R357 to R361): which source the check serves, the five machine cycles of its
dispatch, and what the dispatch saves. -/

namespace Sys2Proof.Machine

open Sys2Proof.Claims

/-! ### Priority (60_exceptions.md R357, R359) -/

theorem Source.index_ne {j k : Source} (ne : j ≠ k) : k.index ≠ j.index := by
  revert ne
  cases j <;> cases k <;> decide

/-- The start of a dispatch clears the bit of its source alone. -/
theorem acceptInterrupt_getLsbD (s : State) {k j : Source} (ne : j ≠ k) :
    (acceptInterrupt k s).irq.iflag.getLsbD j.index = s.irq.iflag.getLsbD j.index := by
  have inside : j.index < 5 := by cases j <;> decide
  show (s.irq.iflag &&& ~~~k.bit).getLsbD j.index = _
  rw [BitVec.getLsbD_and, BitVec.getLsbD_not, Source.bit_getLsbD, decide_eq_true inside,
    decide_eq_false (Source.index_ne ne)]
  exact Bool.and_true _

/-- The lowest source of a set of bits is the one whose bit is set and no lower one is. -/
theorem lowestSource_eq_some (p : BitVec 5) (k : Source) :
    lowestSource p = some k ↔
      p.getLsbD k.index = true ∧ ∀ j : Source, j.index < k.index → ¬p.getLsbD j.index = true := by
  have sources (P : Source → Prop) : (∀ j, P j) ↔ P .vblank ∧ P .lcdStat ∧ P .timer ∧ P .serial ∧ P .joypad :=
    ⟨fun h => ⟨h _, h _, h _, h _, h _⟩, fun ⟨h0, h1, h2, h3, h4⟩ j => by cases j <;> assumption⟩
  rw [sources]
  revert p
  cases k <;> unfold lowestSource <;> decide

/-- Settles O37, by the bit a dispatch clears and the lowest of the pending and enabled sources. -/
theorem interruptPriority : Obligations.InterruptPriority := by
  refine ⟨fun s k j => acceptInterrupt_getLsbD s, fun s k => ?_⟩
  have bits (j : Source) : s.pending.getLsbD j.index = true ↔
      s.irq.ie.getLsbD j.index = true ∧ s.irq.iflag.getLsbD j.index = true := by
    rw [State.pending, BitVec.getLsbD_and, Bool.and_eq_true]
  by_cases enabled : s.cpu.ime = true
  · rw [State.servedSource, if_pos enabled, lowestSource_eq_some]
    simp only [bits, enabled, true_and, and_assoc]
  · rw [servedSource_of_masked (Bool.eq_false_iff.2 enabled)]
    simp [enabled]

/-! ### The dispatch (60_exceptions.md R358) -/

theorem acceptInterrupt_pc (k : Source) (s : State) : (acceptInterrupt k s).cpu.pc = s.cpu.pc := rfl

/-- Both pushes of a dispatch take their byte from the PC it found. -/
theorem runCycles_dispatch (k : Source) (s : State) :
    runCycles (dispatchCycles k) s =
      (between (pushed s.cpu.pc (between (between (acceptInterrupt k s))))).retire k.vector := by
  simp only [dispatchCycles, runCycles_going, runCycles_idle, runCycles_last, between_cpu_pc, pushByte_cpu,
    acceptInterrupt_pc, pushed_eq_pushWord, pushWord]

/-- A source is served only if it is pending and enabled, so that a halted CPU does not stay halted. -/
theorem pending_of_served {s : State} {k : Source} (served : (wakeIfHalted s).servedSource = some k) : s.pending ≠ 0 := by
  intro none
  have pending : (wakeIfHalted s).pending = 0 := by
    rw [← none, (wakeIfHalted_prepared s).cpuOnly]
    rfl
  rw [State.servedSource, pending] at served
  split at served <;> cases served

/-- The state a dispatch leaves, before the end of its last machine cycle (60_exceptions.md R358). -/
def dispatched (k : Source) (s : State) : State :=
  let w := wakeIfHalted s
  (between (pushed w.cpu.pc (between (between (acceptInterrupt k (latchDispatch k w)))))).retire k.vector

/-- The wake clears `halted` and steps PC over the HALT opcode. -/
theorem wakeIfHalted_eq (s : State) :
    wakeIfHalted s =
      s.withCpu { s.cpu with halted := false, pc := if s.cpu.halted then s.cpu.pc + 1 else s.cpu.pc } := by
  cases halted : s.cpu.halted
  · rw [wakeIfHalted_of_not_halted halted, if_neg nofun, ← halted]
    rfl
  · rw [wakeIfHalted_of_halted halted, if_pos rfl]
    rfl

/-- The CPU a dispatch leaves. -/
theorem dispatched_cpu (k : Source) (s : State) :
    (dispatched k s).cpu =
      { s.cpu with
        ir := .int k, ime := false, halted := false, ei := false, di := false, sp := s.cpu.sp - 2, pc := k.vector
        stage := 0, d8 := 0x00, d16 := 0x0000, pf := Flags.clear } := by
  rw [dispatched, State.retire, between_cpu, pushed_eq_pushWord, pushWord_cpu, between_cpu, between_cpu,
    wakeIfHalted_eq]
  rfl

theorem step_of_served {s : State} {k : Source} (atBoundary : AtBoundary s)
    (served : (wakeIfHalted s).servedSource = some k) : step s = .next (endCycle (dispatched k s)) := by
  obtain ⟨running, stage⟩ := atBoundary
  have alive : (dispatched k s).cpu.fatal = none := by
    rw [dispatched_cpu]
    exact running
  rw [step_of_dispatch running stage (boundary_of_served (fun _ => pending_of_served served) served), dispatchStep,
    execute, runCycles_dispatch, finish, ← finishCycle_of_running alive]
  rfl

/-- Settles O38, by the five cycles of the dispatch (`runCycles_dispatch`). -/
theorem interruptDispatch : Obligations.InterruptDispatch := fun _ _ => step_of_served

/-! ### What a dispatch saves (60_exceptions.md R358, R361) -/

/-- The two bytes of a pushed word in RAM. -/
theorem pushed_mem {s : State} {hi lo : Nat} (highRam : regionOf (s.cpu.sp - 1) = .ram hi)
    (lowRam : regionOf (s.cpu.sp - 2) = .ram lo) (v : Word) :
    (pushed v s).mem = (s.mem.write hi (hiByte v)).write lo (loByte v) := by
  rw [pushed, memWrite_ram lowRam]
  dsimp only
  rw [State.setSp_mem, between_mem, memWrite_ram highRam]
  rfl

/-- A dispatch whose stack is in RAM stores the two bytes of PC, after the wake, and no other byte. -/
theorem dispatched_mem {k : Source} {s : State} {hi lo : Nat} (highRam : regionOf (s.cpu.sp - 1) = .ram hi)
    (lowRam : regionOf (s.cpu.sp - 2) = .ram lo) :
    (dispatched k s).mem =
      (s.mem.write hi (hiByte (wakeIfHalted s).cpu.pc)).write lo (loByte (wakeIfHalted s).cpu.pc) := by
  have sp : (between (between (acceptInterrupt k (latchDispatch k (wakeIfHalted s))))).cpu.sp = s.cpu.sp := by
    rw [between_cpu_sp, between_cpu_sp, wakeIfHalted_eq]
    rfl
  rw [dispatched, State.retire_mem, between_mem, pushed_mem (by rw [sp, highRam]) (by rw [sp, lowRam]), between_mem,
    between_mem]
  congr 2
  rw [wakeIfHalted_eq]
  rfl

/-- The key of an address of RAM, which is the address but for the echo (20_memory.md R71, R83). -/
theorem ram_key {w : Word} {key : Nat} (h : regionOf w = .ram key) :
    0xA000 ≤ w.toNat ∧ (((w.toNat ≤ 0xDFFF ∨ 0xFF80 ≤ w.toNat) ∧ key = w.toNat) ∨
      (0xE000 ≤ w.toNat ∧ w.toNat ≤ 0xFDFF) ∧ key = w.toNat - 0x2000) := by
  obtain ⟨-, e⟩ | ⟨-, -, e⟩ | ⟨_, _, e⟩ | ⟨_, _, e⟩ | ⟨-, -, e⟩ | ⟨-, -, e⟩ | ⟨-, -, e⟩ | ⟨_, _, e⟩ | ⟨-, e⟩ :=
    regionOf_cases w
  all_goals injection e.symm.trans h
  all_goals omega

/-- Two addresses of RAM nearer to each other than to the echo name different bytes. -/
theorem ram_key_ne_of_near {a d : Word} {k l : Nat} (ha : regionOf a = .ram k) (hb : regionOf (a + d) = .ram l)
    (apart : 0 < d.toNat) (near : d.toNat < 0x2000) : l ≠ k := by
  have sum : (a + d).toNat = (a.toNat + d.toNat) % 65536 := BitVec.toNat_add _ _
  have first := ram_key ha
  have second := ram_key hb
  omega

/-- Settles O39, by the CPU a dispatch leaves (`dispatched_cpu`) and the word it pushes (`pushed_mem`). -/
theorem dispatchSavesOnlyPc : Obligations.DispatchSavesOnlyPc := by
  intro s k atBoundary served
  obtain ⟨running, -⟩ := id atBoundary
  have cpu : (endCycle (dispatched k s)).cpu = _ := (endCycle_cpu _).trans (dispatched_cpu k s)
  refine ⟨_, step_of_served atBoundary served, ?_⟩
  rw [AtBoundary, cpu]
  refine ⟨⟨running, rfl⟩, rfl, rfl, rfl, rfl, rfl, fun r => ?_, rfl, fun hi lo highRam lowRam => ?_⟩
  · rw [State.r8, cpu]
    cases r <;> rfl
  have apart : hi ≠ lo := by
    have next : s.cpu.sp - 1 = s.cpu.sp - 2 + 1 := by bv_omega
    rw [next] at highRam
    exact ram_key_ne_of_near lowRam highRam (by decide) (by decide)
  rw [endCycle_mem, dispatched_mem highRam lowRam]
  refine ⟨?_, fun a notHigh notLow => ?_⟩
  · rw [Memory.read_write_self, Memory.read_write_ne _ _ _ _ apart,
      Memory.read_write_self, joinBytes_hiByte_loByte, wakeIfHalted_eq]
    rfl
  · rw [Memory.read_write_ne _ _ _ _ notLow, Memory.read_write_ne _ _ _ _ notHigh]

end Sys2Proof.Machine
end

section
/-! PROOF. The fetch (60_exceptions.md R360, 30_encoding.md R113 to R115): the step runs the instruction whose bytes the
fetch reads, bytes in ROM and RAM stay what they are until they are read, and a placed word is such an instruction. -/

namespace Sys2Proof.Machine

open Sys2Proof.Claims

/-! ### The instruction the fetch latches -/

/-- The latched instruction is the one the bytes of the fetch decode to. -/
theorem latched_of_decode {s : State} {i : Instr} {rest : List Byte} (decoded : decode (fetchedBytes s) = .ok (i, rest)) :
    (fetched s).latched = i := by
  obtain ⟨rest', named⟩ := decode_instrOf (memRead s s.cpu.pc) (memRead (between (fetchOpcode s)) (s.cpu.pc + 1))
    (memRead (between (readOperand1 (between (fetchOpcode s)))) (s.cpu.pc + 2)) []
  injection named.symm.trans decoded with pair
  rw [fetched_latched]
  exact congrArg Prod.fst pair

/-- Settles O5: the step runs what the fetch latched (`latched_of_decode`). -/
theorem stepRunsTheDecodedInstruction : Obligations.StepRunsTheDecodedInstruction := by
  intro s s' i rest atBoundary h decoded
  obtain ⟨running, stage⟩ := atBoundary
  rw [step_of_fetch running stage h, latched_of_decode decoded]

/-- Settles O15, since a step and a machine cycle of a fatal machine are the identity. -/
theorem stoppedMachineIsFinal : Obligations.StoppedMachineIsFinal := by
  intro s d stopped
  have fatal : s.cpu.fatal.isSome = true := by rw [stopped]; rfl
  refine ⟨step_of_fatal fatal, (systemStep_of_fatal (Option.isSome_iff_ne_none.1 fatal)).1, fun c => if_pos fatal, ?_⟩
  rw [State.diagnostic, stopped]
  rfl

/-! ### Bytes in ROM and RAM -/

theorem placeable_iff (a : Word) : placeable a = true ↔ regionOf a = .rom ∨ ∃ k, regionOf a = .ram k := by
  unfold placeable
  cases regionOf a <;> simp

theorem memRead_of_rom {a : Word} (h : regionOf a = .rom) (s : State) :
    memRead s a =
      if a.toNat ≤ 0x00FF ∧ s.bus.bootOff = false then s.bootRom.read a.toNat else s.cartRom.read a.toNat := by
  rw [memRead, h]

/-- What a read of ROM or RAM depends on is the same. -/
structure SameStorage (s t : State) : Prop where
  mem : t.mem = s.mem
  bootRom : t.bootRom = s.bootRom
  cartRom : t.cartRom = s.cartRom
  bootOff : t.bus.bootOff = s.bus.bootOff

theorem SameStorage.trans {s t u : State} (h : SameStorage s t) (g : SameStorage t u) : SameStorage s u :=
  ⟨g.mem.trans h.mem, g.bootRom.trans h.bootRom, g.cartRom.trans h.cartRom, g.bootOff.trans h.bootOff⟩

theorem SameStorage.to_between {s t : State} (h : SameStorage s t) : SameStorage s (between t) :=
  h.trans ⟨between_mem t, between_bootRom t, between_cartRom t, by rw [between_bus]⟩

/-- A byte in ROM or RAM reads the same with the same storage. -/
theorem SameStorage.memRead_eq {s t : State} (h : SameStorage s t) {a : Word} (inStorage : placeable a = true) :
    memRead t a = memRead s a := by
  obtain rom | ⟨k, ram⟩ := (placeable_iff a).1 inStorage
  · rw [memRead_of_rom rom, memRead_of_rom rom, h.bootOff, h.bootRom, h.cartRom]
  · rw [memRead_ram ram, memRead_ram ram, h.mem]

theorem placeable3_iff (a : Word) :
    placeable3 a = true ↔ placeable a = true ∧ placeable (a + 1) = true ∧ placeable (a + 2) = true := by
  rw [placeable3, Bool.and_eq_true, Bool.and_eq_true, and_assoc]

/-- The fetch of three bytes in ROM or RAM reads what is there when it begins. -/
theorem fetchedBytes_of_placeable {s : State} (h : placeable3 s.cpu.pc = true) :
    fetchedBytes s = [memRead s s.cpu.pc, memRead s (s.cpu.pc + 1), memRead s (s.cpu.pc + 2)] := by
  obtain ⟨-, second, third⟩ := (placeable3_iff _).1 h
  have same2 : SameStorage s (between (fetchOpcode s)) := SameStorage.to_between ⟨rfl, rfl, rfl, rfl⟩
  have same3 : SameStorage s (between (readOperand1 (between (fetchOpcode s)))) :=
    SameStorage.to_between (same2.trans (u := readOperand1 (between (fetchOpcode s))) ⟨rfl, rfl, rfl, rfl⟩)
  simp only [fetchedBytes, same2.memRead_eq second, same3.memRead_eq third]

theorem setD8_r8 (s : State) (v : Byte) (r : Reg8) : (s.setD8 v).r8 r = s.r8 r := by cases r <;> rfl

theorem setD16_r8 (s : State) (v : Word) (r : Reg8) : (s.setD16 v).r8 r = s.r8 r := by cases r <;> rfl

/-- The fetch writes IR and the pass-through, and keeps PC, SP, the registers and storage. -/
theorem fetched_keeps (s : State) :
    (fetched s).cpu.pc = s.cpu.pc ∧ (∀ r, (fetched s).r8 r = s.r8 r) ∧ (fetched s).cpu.sp = s.cpu.sp ∧
      (fetched s).mem = s.mem := by
  have opcode : (fetchOpcode s).cpu.pc = s.cpu.pc ∧ (∀ r, (fetchOpcode s).r8 r = s.r8 r) ∧
      (fetchOpcode s).cpu.sp = s.cpu.sp ∧ (fetchOpcode s).mem = s.mem := ⟨rfl, fun r => by cases r <;> rfl, rfl, rfl⟩
  unfold fetched
  rcases operandReads (memRead s s.cpu.pc) with _ | _ | n <;>
    simpa [readOperands, readOperand1, readOperand2, setD8_r8, setD16_r8] using opcode

/-- Settles O6, since the bytes read are those in memory (`fetchedBytes_of_placeable`). -/
theorem stepRunsTheInstructionInMemory : Obligations.StepRunsTheInstructionInMemory := by
  intro s s' i rest atBoundary h inMemory decoded
  rw [← fetchedBytes_of_placeable inMemory] at decoded
  obtain ⟨pc, r8, sp, mem⟩ := fetched_keeps s'
  exact ⟨stepRunsTheDecodedInstruction s s' i rest atBoundary h decoded, pc, fetched_f s', r8, sp, mem⟩

/-! ### Placing (log 9) -/

theorem placeByte_ram {a : Word} {k : Nat} (h : regionOf a = .ram k) (s : State) (v : Byte) :
    placeByte s a v = { s with mem := s.mem.write k v } := by
  rw [placeByte, h]

/-- A byte placed in ROM goes to the image the bus reads there. -/
theorem placeByte_rom {a : Word} (h : regionOf a = .rom) (s : State) (v : Byte) :
    placeByte s a v =
      if a.toNat ≤ 0x00FF ∧ s.bus.bootOff = false then { s with bootRom := s.bootRom.write a.toNat v }
      else { s with cartRom := s.cartRom.write a.toNat v } := by
  rw [placeByte, h]

theorem memRead_placeByte_self (s : State) {a : Word} (v : Byte) (h : placeable a = true) :
    memRead (placeByte s a v) a = v := by
  obtain rom | ⟨k, ram⟩ := (placeable_iff a).1 h
  · rw [placeByte_rom rom, memRead_of_rom rom]
    by_cases boot : a.toNat ≤ 0x00FF ∧ s.bus.bootOff = false
    · rw [if_pos boot, if_pos boot, Memory.read_write_self]
    · rw [if_neg boot, if_neg boot, Memory.read_write_self]
  · rw [placeByte_ram ram, memRead_ram ram, Memory.read_write_self]

/-- A placed byte leaves the bytes of ROM and RAM that its address does not name. -/
theorem memRead_placeByte_other (s : State) {a b : Word} (v : Byte) (ha : placeable a = true) (hb : placeable b = true)
    (ne : b ≠ a) (keys : ∀ k l, regionOf a = .ram k → regionOf b = .ram l → l ≠ k) :
    memRead (placeByte s a v) b = memRead s b := by
  have apart : b.toNat ≠ a.toNat := fun e => ne (BitVec.eq_of_toNat_eq e)
  obtain romA | ⟨k, ramA⟩ := (placeable_iff a).1 ha <;> obtain romB | ⟨l, ramB⟩ := (placeable_iff b).1 hb
  · rw [placeByte_rom romA, memRead_of_rom romB s]
    split
    · rw [memRead_of_rom romB, Memory.read_write_ne _ _ _ _ apart]
    · rw [memRead_of_rom romB, Memory.read_write_ne _ _ _ _ apart]
  · rw [placeByte_rom romA, memRead_ram ramB s]
    split <;> rw [memRead_ram ramB]
  · rw [placeByte_ram ramA, memRead_of_rom romB, memRead_of_rom romB]
  · rw [placeByte_ram ramA, memRead_ram ramB, memRead_ram ramB, Memory.read_write_ne _ _ _ _ (keys k l ramA ramB)]

/-- A byte placed a little above another one leaves that one. -/
theorem memRead_placeByte_above (s : State) {a d : Word} (v : Byte) (ha : placeable a = true)
    (hd : placeable (a + d) = true) (apart : 0 < d.toNat) (near : d.toNat < 0x2000) :
    memRead (placeByte s (a + d) v) a = memRead s a := by
  have ne : a ≠ a + d := by bv_omega
  exact memRead_placeByte_other s v hd ha ne fun k l above below => (ram_key_ne_of_near below above apart near).symm

@[simp] theorem placeByte_cpu (s : State) (a : Word) (v : Byte) : (placeByte s a v).cpu = s.cpu := by
  unfold placeByte
  cases regionOf a
  case rom => dsimp only; split <;> rfl
  all_goals rfl

@[simp] theorem placeByte_irq (s : State) (a : Word) (v : Byte) : (placeByte s a v).irq = s.irq := by
  unfold placeByte
  cases regionOf a
  case rom => dsimp only; split <;> rfl
  all_goals rfl

/-- Three bytes placed in ROM or RAM are what the bus reads there. -/
theorem memRead_placeBytes (s : State) {a : Word} (h : placeable3 a = true) (v0 v1 v2 : Byte) :
    memRead (placeBytes s a [v0, v1, v2]) a = v0 ∧ memRead (placeBytes s a [v0, v1, v2]) (a + 1) = v1 ∧
      memRead (placeBytes s a [v0, v1, v2]) (a + 2) = v2 := by
  obtain ⟨h0, h1, h2⟩ := (placeable3_iff a).1 h
  have two : a + 2 = a + 1 + 1 := (add_one_one a).symm
  simp only [placeBytes, ← two]
  refine ⟨?_, ?_, memRead_placeByte_self _ _ h2⟩
  · rw [memRead_placeByte_above _ _ h0 h2 (by decide) (by decide),
      memRead_placeByte_above _ _ h0 h1 (by decide) (by decide), memRead_placeByte_self _ _ h0]
  · rw [two, memRead_placeByte_above _ _ h1 (two ▸ h2) (by decide) (by decide), memRead_placeByte_self _ _ h1]

theorem placeBytes_cpu (s : State) (a : Word) (vs : List Byte) : (placeBytes s a vs).cpu = s.cpu := by
  induction vs generalizing s a with
  | nil => rfl
  | cons v vs ih => rw [placeBytes, ih, placeByte_cpu]

theorem placeBytes_irq (s : State) (a : Word) (vs : List Byte) : (placeBytes s a vs).irq = s.irq := by
  induction vs generalizing s a with
  | nil => rfl
  | cons v vs ih => rw [placeBytes, ih, placeByte_irq]

theorem readyToFetch_placeable3 (s : State) : placeable3 (readyToFetch s).cpu.pc = true := by
  unfold readyToFetch
  dsimp only
  split
  · assumption
  · decide

/-- The machine with a placed word fetches it: no source is served. -/
theorem boundary_withFetchWord (s : State) (nbits w : Nat) :
    boundary (s.withFetchWord nbits w) = .fetch (applyDi (applyEi (s.withFetchWord nbits w))) := by
  have cpu : (s.withFetchWord nbits w).cpu = (readyToFetch s).cpu := placeBytes_cpu _ _ _
  have pending : (s.withFetchWord nbits w).pending = s.pending := by
    rw [State.pending, State.withFetchWord, placeBytes_irq]
    rfl
  have notHalted : (s.withFetchWord nbits w).cpu.halted = false := by rw [cpu]; rfl
  have awake := wakeIfHalted_of_not_halted notHalted
  have unserved : (s.withFetchWord nbits w).servedSource = none := by
    rw [State.servedSource, pending, cpu]
    by_cases none : s.pending = 0
    · rw [none]
      exact ite_self _
    · have masked : (readyToFetch s).cpu.ime = false := by
        show (s.cpu.ime && s.pending == 0) = false
        rw [beq_eq_false_iff_ne.2 none, Bool.and_false]
      rw [masked]
      rfl
  rw [boundary_of_unserved (by simp [notHalted]) (by rw [awake, unserved]), awake]

theorem tableBytes_three (nbits w : Nat) : ∃ v0 v1 v2, tableBytes nbits w = [v0, v1, v2] := by
  unfold tableBytes
  dsimp only
  split <;> exact ⟨_, _, _, rfl⟩

/-- The decoder's reading of a table word. -/
theorem decode_of_decodeTableWord {nbits w : Nat} {i : Instr} (h : decodeTableWord nbits w = some i) :
    ∃ rest, decode (tableBytes nbits w) = .ok (i, rest) := by
  unfold decodeTableWord at h
  split at h
  · rename_i j rest decoded
    injection h with h
    exact ⟨rest, h ▸ decoded⟩
  · cases h

/-- Settles O7: the placed bytes lie in ROM or RAM, where the fetch finds them (O6). -/
theorem placedWordRuns : Obligations.PlacedWordRuns := by
  intro s nbits w i named
  obtain ⟨rest, decoded⟩ := decode_of_decodeTableWord named
  obtain ⟨v0, v1, v2, bytes⟩ := tableBytes_three nbits w
  have cpu : (s.withFetchWord nbits w).cpu = (readyToFetch s).cpu := placeBytes_cpu _ _ _
  have fetches := boundary_withFetchWord s nbits w
  have latched := (applyEi_prepared (s.withFetchWord nbits w)).trans (applyDi_prepared _)
  obtain ⟨pc, -⟩ := applyDi_applyEi_keeps (s.withFetchWord nbits w)
  generalize applyDi (applyEi (s.withFetchWord nbits w)) = s' at fetches latched pc
  rw [cpu] at pc
  have inMemory : placeable3 s'.cpu.pc = true := pc ▸ readyToFetch_placeable3 s
  have read (a : Word) : memRead s' a = memRead (s.withFetchWord nbits w) a := by rw [latched.cpuOnly]; rfl
  obtain ⟨placed0, placed1, placed2⟩ := memRead_placeBytes (readyToFetch s) (readyToFetch_placeable3 s) v0 v1 v2
  have fetchedWord : decode (fetchedBytes s') = .ok (i, rest) := by
    rw [fetchedBytes_of_placeable inMemory, read, read, read, pc, State.withFetchWord, bytes, placed0, placed1,
      placed2, ← bytes, decoded]
  have atBoundary : AtBoundary (s.withFetchWord nbits w) := ⟨by rw [cpu]; rfl, by rw [cpu]; rfl⟩
  exact ⟨s', fetches, latched_of_decode fetchedWord,
    stepRunsTheDecodedInstruction _ s' i rest atBoundary fetches fetchedWord⟩

end Sys2Proof.Machine
end

section
/-! PROOF. Reset (70_reset_and_hazards.md R400, R401): the values of the table and the invariant. -/

namespace Sys2Proof.Machine

open Sys2Proof.Claims

/-- Settles O11, field by field: nothing is listed in storage and the LCD is off. -/
theorem resetHasTheInvariant : Obligations.ResetHasTheInvariant where
  cpu := Cpu.reset_inv
  ppu := Ppu.reset_inv _
  div_multiple := rfl
  mem := Memory.Inv.nil _
  bootRom := Memory.Inv.nil _
  cartRom := Memory.Inv.nil _

theorem reset_frame (y x : Nat) (hy : y < 144) (hx : x < 160) : State.reset.ppu.frame[y][x] = 0 := by
  show ((Vector.replicate 144 (Vector.replicate 160 (0 : Shade)))[y])[x] = 0
  rw [Vector.getElem_replicate, Vector.getElem_replicate]

theorem clear_toByte : Flags.clear.toByte = 0x00 := by decide

theorem reset_joypad : State.reset.joypad.read = 0x0F := by decide

theorem reset_stat : Ppu.reset.statByte = 0x00 := by decide

/-- The table of R401, line by line, whatever the images and the parameters. -/
theorem atReset_of_reset (bootRom cartRom : Memory) (params : Params) :
    AtReset { State.reset with bootRom := bootRom, cartRom := cartRom, params := params } :=
  ⟨fun r => by cases r <;> rfl, clear_toByte, rfl, rfl, rfl, rfl, rfl, rfl, rfl, rfl, rfl, rfl, rfl, rfl, rfl, rfl, rfl, rfl, rfl,
    fun button => by cases button <;> rfl, (memRead_io (r := .joyp) rfl _).trans reset_joypad, rfl, rfl, rfl, rfl, rfl,
    (memRead_io (r := .stat) rfl _).trans reset_stat, rfl, rfl, rfl, rfl, rfl, rfl, rfl, rfl, rfl, rfl, rfl, rfl,
    reset_frame, fun _ => rfl⟩

/-- A machine that is constructed has images of the right sizes, and is the reset machine with them. -/
theorem eq_ofImages_of_construct {boot cart : List Byte} {p : Params} {s : State}
    (h : State.construct boot cart p = .ok s) : s = State.ofImages boot cart p := by
  unfold State.construct at h
  split at h
  · injection h with h
    exact h.symm
  · cases h

/-- Settles O12, for the machine of reset and for every constructed one. -/
theorem resetValues : Obligations.ResetValues := by
  refine ⟨atReset_of_reset [] [] Params.default, fun boot cart p s constructed => ?_⟩
  obtain rfl := eq_ofImages_of_construct constructed
  exact ⟨atReset_of_reset _ _ p, fun a _ => Memory.read_image boot a, fun a _ => Memory.read_image cart a⟩

end Sys2Proof.Machine
end
